-- ==== Sys2Proof/Word.lean ====
section
/-! DEFINITION. The words of PM-core (spec/00_scope.md R15, spec/30_encoding.md R65 to R74): the unsigned
number types, the names that operands are made of, the Correlation Result, and the two forms in which an
instruction reaches the block: the 4-byte frame and the operation word. -/

namespace Sys2Proof

/-- `u8` of R15: one byte of the serial stream. -/
abbrev Byte := BitVec 8

/-- `u16` of R15: one channel value. -/
abbrev U16 := BitVec 16

/-- `u32` of R15: the assembled word of a frame. -/
abbrev U32 := BitVec 32

/-- The two channels (R6, `N_CHANNELS = 2`, labelled A and B). -/
inductive Channel where
  | A
  | B
deriving DecidableEq, Repr

/-- The five error kinds of R155. -/
inductive ErrorKind where
  | sourceNotReady
  | shortRead
  | prevUndefined
  | engineMisuse
  | incompleteFrame
deriving DecidableEq, Repr

/-- The thirteen operations of R70. Codes 0xD to 0xF are reserved and have no constructor (R76). -/
inductive Opc where
  | reset
  | tick
  | poll
  | read4
  | decode
  | filter
  | append
  | last
  | snapshot
  | xcorr
  | publish
  | report
  | resched
deriving DecidableEq, Repr

/-- The Correlation Result in the exact form of R74 and R119: one denominator for the whole result and
`(lag, num)` entries in the order of emission. The real number of an entry is `num / den`. -/
structure CorrResult where
  den : Nat
  entries : List (Int × Int)
deriving DecidableEq, Repr

/-- The operands of an operation, as a bundle beside its code. The spec encodes no operand of an operation
(each rule says "Encoding. None"), so the bundle is the model's own (DESIGN CHOICE, log entry 4): every
operation reads the fields that R70 names for it and no other. The default of a field is its zero.

`bytes` is `rd` of TICK and `buf` of DECODE; `x` and `y` are the operands of XCORR and the series `A` and
`B` of PUBLISH. -/
structure Operands where
  avail : Nat := 0
  bytes : List Byte := []
  v : U16 := 0
  prev : Option U16 := none
  fa : U16 := 0
  fb : U16 := 0
  ch : Channel := .A
  x : List U16 := []
  y : List U16 := []
  ra : U16 := 0
  rb : U16 := 0
  corr : CorrResult := ⟨0, []⟩
  kind : ErrorKind := .sourceNotReady
deriving DecidableEq, Repr

/-- An operation word: the 4-bit `OPC` of R70 and the operands presented with it. -/
structure OpWord where
  opc : BitVec 4
  args : Operands
deriving DecidableEq, Repr

/-- What the decoder is given: the bytes of a frame in arrival order (R65), or an operation word (R70). -/
inductive Code where
  | frame (bytes : List Byte)
  | op (w : OpWord)
deriving DecidableEq, Repr

end Sys2Proof
end

