-- ==== Sys2Proof/Config.lean ====
section
/-! DEFINITION. What is fixed for the machine and what the environment chooses freely: the record of
parameters of spec/00_scope.md section 3 (R6 to R12), and the free answers of the Serial source (R38). -/

namespace Sys2Proof

/-- The implementation parameters of R6 to R11, as a record (decision D10). The value of the record is
`Sys2Proof.Machine.params`. Widths 32 and 16 are the types `U32` and `U16`. -/
structure Params where
  /-- `FRAME_BYTES` (R6). -/
  frameBytes : Nat
  /-- `THRESHOLD` (R7). -/
  threshold : Nat
  /-- `CAPACITY` (R8). -/
  capacity : Nat
  /-- `SEED` (R8). -/
  seed : U16
  /-- `N_MIN` (R9). -/
  nMin : Nat
  /-- `TICK_DELAY_MS` (R10): handed to the Scheduler and read by no other rule. -/
  tickDelayMs : Nat
  /-- Serial line configuration (R11), recorded and used by no rule: 115200 baud. -/
  baud : Nat
  /-- R11: data bits. -/
  dataBits : Nat
  /-- R11: stop bits. -/
  stopBits : Nat
  /-- R11: whether a parity bit is sent. -/
  parity : Bool
deriving DecidableEq, Repr

/-- FREE VALUE (R38, decision D2; log entry 1): what `SrcAvail()` answers at the given draw, when the
source is the free environment. No body: nothing can be proved about it, so what is proved holds for
every answer. -/
opaque Config.srcAvail : Nat → Nat

/-- FREE VALUE (R38, decision D2; log entry 1): the bytes that stand ready at the given draw; `SrcRead(4)`
answers the first at most 4 of them, so its answer is any sequence of 0 to 4 bytes. -/
opaque Config.srcBytes : Nat → List Byte

end Sys2Proof
end

