-- ==== Sys2Proof/Machine/Params.lean ====
section
/-! DEFINITION. The values of the parameters, as spec/00_scope.md R6 to R11 give them. -/

namespace Sys2Proof.Machine

/-- The parameters of PM-core. The source document's literals are unaudited (93_implementation_defined.md
U9; UNVERIFIED, log entry 11), so a wrong one is mended here. -/
def params : Params where
  frameBytes := 4
  threshold := 6000
  capacity := 1000
  seed := 0
  nMin := 2
  tickDelayMs := 100
  baud := 115200
  dataBits := 8
  stopBits := 1
  parity := false

/-- `MAX_LEN = CAPACITY + 1` (R8): the seed and `CAPACITY` pushes. -/
def maxLen : Nat := params.capacity + 1

end Sys2Proof.Machine
end

