-- ==== Sys2Proof/Machine/State.lean ====
section
/-! DEFINITION. The state of PM-core (spec/10_state.md R21 to R26), the state after construction reset (R39),
and beside it what this model keeps of the block's surroundings: the Serial source, the command port, and
the record of what was called, performed and returned. -/

namespace Sys2Proof.Machine

/-- `PHASE` (R25, codes R71). Codes 6 and 7 are reserved and have no constructor (R76). -/
inductive Phase where
  | idle
  | waiting
  | decoding
  | filtering
  | buffering
  | rendering
deriving DecidableEq, Repr

/-- The ways a tick can end (R72, R146). The last two are unreachable from a tick (R147). -/
inductive TickOutcome where
  | published
  | appended
  | cleared
  | sourceNotReady
  | shortRead
  | prevUndefined
  | engineMisuse
  | incompleteFrame
deriving DecidableEq, Repr

/-- The payload of one `Publish` call, in the order of R75: the readout, the two series, the result. -/
structure Payload where
  ra : U16
  rb : U16
  seriesA : List U16
  seriesB : List U16
  corr : CorrResult
deriving DecidableEq, Repr

/-- One call to a collaborator (R35 to R37), with what it carried and, for the source, what it answered. -/
inductive Call where
  /-- `SrcAvail()` and its answer. -/
  | srcAvail (answer : Nat)
  /-- `SrcRead(n)` and the bytes it answered, which have left the source. -/
  | srcRead (n : Nat) (answer : List Byte)
  /-- `Publish(ra, rb, A, B, R)`, by value (R106, decision D17). -/
  | publish (p : Payload)
  /-- `Report(kind)`. -/
  | report (kind : ErrorKind)
  /-- `Resched(ms)`. -/
  | resched (ms : Nat)
deriving DecidableEq, Repr

/-- One operation performed: the `PHASE` it was performed in (R142) and its name (R70). -/
structure TraceEntry where
  phase : Phase
  op : Opc
deriving DecidableEq, Repr

/-- What an operation returned: the right-hand side of R70's column "operands -> result". -/
inductive Result where
  /-- The operation returns nothing. -/
  | nothing
  /-- POLL: the answer of the source. -/
  | avail (n : Nat)
  /-- READ4: the bytes read. -/
  | bytes (buf : List Byte)
  /-- DECODE: the raw channel values. -/
  | sample (a b : U16)
  /-- FILTER: the value to be pushed. -/
  | value (v : U16)
  /-- LAST: the last value, or absent. -/
  | last (v : Option U16)
  /-- SNAPSHOT: both series, by value. -/
  | series (a b : List U16)
  /-- XCORR: the Correlation Result. -/
  | corr (r : CorrResult)
  /-- TICK and FRAME: how the tick ended. -/
  | outcome (o : TickOutcome)
  /-- An operation taken alone raised an error kind and returned nothing. -/
  | raised (k : ErrorKind)
deriving DecidableEq, Repr

/-- The Serial source, as R38 allows a model to take it: an environment that answers freely, or a queue
of bytes waiting (the refinement of decision D2). -/
inductive Source where
  /-- Answers are the free values of `Config`. -/
  | free
  /-- The bytes received and not yet read, oldest first. -/
  | queue (q : List Byte)
deriving DecidableEq, Repr

/-- The state. `sa` to `fault` are PM-core's own (R21 to R26). The rest is the model's own, no state of the
hardware (DESIGN CHOICE, log entries 1 to 7): `source` and `draws` stand for the environment, `cmds` for the port on which
stimulus lines and operations are presented, and `calls`, `trace` and `ret` are what an observer has seen.
No operation reads `calls`, `trace` or `ret`. -/
structure State where
  /-- `SA`: the Channel Series of channel A, oldest first (R21). -/
  sa : List U16
  /-- `SB`: the Channel Series of channel B, oldest first (R22). -/
  sb : List U16
  /-- `COUNT`: pushes since construction reset or the last wrap-clear, exactly the values 0 to `CAPACITY` = 1000
  (R23, R112, decision D11). -/
  count : Fin 1001
  /-- `PHASE` (R25). -/
  phase : Phase
  /-- `FAULT`: bit 0 PrevUndefined, bit 1 EngineMisuse, bit 2 IncompleteFrame, sticky (R26, R73). -/
  fault : BitVec 3
  /-- The Serial source. -/
  source : Source
  /-- How many answers of the free source have been drawn: the argument of the free values. -/
  draws : Nat
  /-- Operation words presented and not yet taken, oldest first. -/
  cmds : List OpWord
  /-- The collaborator calls made so far, oldest first (decision D23). -/
  calls : List Call
  /-- The operations performed so far, oldest first. -/
  trace : List TraceEntry
  /-- What the latest operation returned. -/
  ret : Result
deriving DecidableEq, Repr

/-- The reasons for which the machine stops with a fault: none. No path of the block ends the loop ("Fatal
conditions: none internally", R148): every error kind of R155 is a next state. SAFE. -/
inductive Fault where
deriving DecidableEq, Repr

/-- The reasons for which a step has no meaning. Each is an input the spec excludes and gives no meaning. -/
inductive Refusal where
  /-- An instruction with no meaning yet. Raised by no arm: every instruction has its meaning. SAFE. -/
  | notModelled (mnemonic : String)
  /-- Raised by the fetch of a command: an operation code 0xD to 0xF, which "a trace consumer that meets one
  refuses" (R76, decision D6). SAFE. -/
  | reservedOpc (c : BitVec 4)
  /-- Raised by TICK, where it would read, and by DECODE: more than 4 bytes, which cannot be presented (R35,
  R91, decision D13). SAFE. -/
  | overlongRead (n : Nat)
  /-- Raised by XCORR, alone or in a tick: operands of unequal length, which cannot be presented (R122,
  decision D14). SAFE. -/
  | unequalLengths (nx ny : Nat)
deriving DecidableEq, Repr

/-- The state right after construction reset: R39 for PM-core's own elements. The model's own fields start
empty, with the free source (DESIGN CHOICE, log entries 1 to 7). -/
def State.reset : State where
  sa := [params.seed]
  sb := [params.seed]
  count := 0
  phase := .idle
  fault := 0
  source := .free
  draws := 0
  cmds := []
  calls := []
  trace := []
  ret := .nothing

end Sys2Proof.Machine
end

