-- ==== Sys2Proof/Machine/Codes.lean ====
section
/-! DEFINITION. The numbers of spec/30_encoding.md: operation, phase, outcome and kind codes (R70 to R72,
R155), report texts (R80), the layouts of the counters and of the Correlation Result (R13, R74). -/

namespace Sys2Proof

/-- The 4-bit `OPC` (R70). -/
def Opc.code : Opc → BitVec 4
  | .reset => 0x0
  | .tick => 0x1
  | .poll => 0x2
  | .read4 => 0x3
  | .decode => 0x4
  | .filter => 0x5
  | .append => 0x6
  | .last => 0x7
  | .snapshot => 0x8
  | .xcorr => 0x9
  | .publish => 0xA
  | .report => 0xB
  | .resched => 0xC

/-- The text the source document quotes for a report, where it quotes one (R80). -/
def ErrorKind.text : ErrorKind → Option String
  | .sourceNotReady => some "no data"
  | .shortRead => some "incomplete data"
  | .prevUndefined => none
  | .engineMisuse => none
  | .incompleteFrame => none

/-- The lag, 11 bits in two's complement, and the numerator, 64 bits in two's complement (R74). -/
def entryWire (e : Int × Int) : BitVec 11 × BitVec 64 := (BitVec.ofInt 11 e.1, BitVec.ofInt 64 e.2)

/-- The result stream of R74: the denominator once, 20 bits unsigned, then the entries in order. -/
def CorrResult.wire (r : CorrResult) : BitVec 20 × List (BitVec 11 × BitVec 64) :=
  (BitVec.ofNat 20 r.den, r.entries.map entryWire)

namespace Machine

/-- The 3-bit `PHASE` code (R71). -/
def Phase.code : Phase → BitVec 3
  | .idle => 0
  | .waiting => 1
  | .decoding => 2
  | .filtering => 3
  | .buffering => 4
  | .rendering => 5

/-- The 3-bit `OUTCOME` code (R72). -/
def TickOutcome.code : TickOutcome → BitVec 3
  | .published => 0
  | .appended => 1
  | .cleared => 2
  | .sourceNotReady => 3
  | .shortRead => 4
  | .prevUndefined => 5
  | .engineMisuse => 6
  | .incompleteFrame => 7

/-- The outcome of a tick that ends in an error kind (R72, R155): they have one name and one code. -/
def outcomeOf : ErrorKind → TickOutcome
  | .sourceNotReady => .sourceNotReady
  | .shortRead => .shortRead
  | .prevUndefined => .prevUndefined
  | .engineMisuse => .engineMisuse
  | .incompleteFrame => .incompleteFrame

/-- The code of an error kind (R155): the outcome code of its name. -/
def kindCode (k : ErrorKind) : BitVec 3 := (outcomeOf k).code

/-- `LEN`, the common length of the two series (R24), read from series A. -/
def State.len (s : State) : Nat := s.sa.length

/-- `SEEDED = LEN - COUNT` (R24). -/
def State.seeded (s : State) : Int := (s.len : Int) - (s.count.val : Int)

/-- `COUNT` as a 10-bit register (R13, R23). -/
def State.countReg (s : State) : BitVec 10 := BitVec.ofNat 10 s.count.val

/-- `LEN` as a 10-bit register (R13, R24). -/
def State.lenReg (s : State) : BitVec 10 := BitVec.ofNat 10 s.len

/-- What the display shows: the payload of the latest `Publish`, if there has been one (R159, R195). -/
def lastPublish (calls : List Call) : Option Payload :=
  calls.foldl (fun shown c => match c with
    | .publish p => some p
    | .srcAvail _ => shown
    | .srcRead _ _ => shown
    | .report _ => shown
    | .resched _ => shown) none

end Machine

end Sys2Proof
end

