-- ==== Sys2Proof/Machine/Flags.lean ====
section
/-! DEFINITION. The `FAULT` register (spec/10_state.md R26, spec/30_encoding.md R73): the only flag-like
state. The comparisons of the filter and of the tick are stored nowhere (R30). -/

namespace Sys2Proof.Machine

/-- The bit an error kind sets (R155): `SourceNotReady` and `ShortRead` set none. -/
def faultMask : ErrorKind → BitVec 3
  | .sourceNotReady => 0b000
  | .shortRead => 0b000
  | .prevUndefined => 0b001
  | .engineMisuse => 0b010
  | .incompleteFrame => 0b100

/-- Raising an error kind sets its sticky bit and changes nothing else (R26, R89, R121, R160). -/
def State.raise (k : ErrorKind) (s : State) : State := { s with fault := s.fault ||| faultMask k }

end Sys2Proof.Machine
end

