-- ==== Sys2Proof/Machine/Operands.lean ====
section
/-! DEFINITION. Where operand values come from: the last elements of the series (spec/42_sample_buffer.md
R105) and the answers of the Serial source (spec/10_state.md R35, R38). -/

namespace Sys2Proof.Machine

/-- The series of a channel (R21, R22). -/
def State.series (ch : Channel) (s : State) : List U16 :=
  match ch with
  | .A => s.sa
  | .B => s.sb

/-- `LAST(ch)` (R105): the newest element, or absent. -/
def lastOf (ch : Channel) (s : State) : Option U16 := (s.series ch).getLast?

/-- What `SrcAvail()` answers now (R35): a free number, or the number of bytes in the queue. -/
def srcAvail (s : State) : Nat :=
  match s.source with
  | .free => Config.srcAvail s.draws
  | .queue q => q.length

/-- What `SrcRead(4)` answers now (R35): at most 4 bytes, free ones or the oldest of the queue. -/
def srcBytes (s : State) : List Byte :=
  match s.source with
  | .free => (Config.srcBytes s.draws).take params.frameBytes
  | .queue q => q.take params.frameBytes

/-- The source after `SrcRead(4)`: it loses exactly the bytes it answered (R35, R55). -/
def srcRemainder (src : Source) : Source :=
  match src with
  | .free => .free
  | .queue q => .queue (q.drop params.frameBytes)

/-- One answer of the source has been drawn. -/
def State.drawn (s : State) : State := { s with draws := s.draws + 1 }

/-- The source has given up the bytes of one `SrcRead(4)`. -/
def State.consumed (s : State) : State := { s with source := srcRemainder s.source }

end Sys2Proof.Machine
end

