-- ==== Sys2Proof/Machine/Ops.lean ====
section
/-! DEFINITION. The shared operations over the state: the observer's record, the collaborator calls, the one
write form of the series, and how an error kind ends an operation or a tick (the only exceptions there
are: spec/60_exceptions.md R155 to R170). -/

namespace Sys2Proof.Machine

/-! ## The record -/

/-- An operation is performed in the current phase (R70, R142). -/
def State.perform (op : Opc) (s : State) : State := { s with trace := s.trace ++ [⟨s.phase, op⟩] }

/-- A collaborator is called (R35 to R37). No call fails or changes PM-core's state (R36, R163). -/
def State.call (c : Call) (s : State) : State := { s with calls := s.calls ++ [c] }

/-- An operation returns. -/
def State.answer (r : Result) (s : State) : State := { s with ret := r }

/-- The sequencer moves (R142). -/
def State.setPhase (p : Phase) (s : State) : State := { s with phase := p }

/-! ## The operations that call a collaborator -/

/-- POLL with the source's answer (R134). -/
def pollOp (avail : Nat) (s : State) : State := (s.perform .poll).call (.srcAvail avail)

/-- READ4 with the source's answer (R135). -/
def read4Op (rd : List Byte) (s : State) : State :=
  (s.perform .read4).call (.srcRead params.frameBytes rd)

/-- PUBLISH (R139): one call carrying all three parts (decision D9). -/
def publishOp (p : Payload) (s : State) : State := (s.perform .publish).call (.publish p)

/-- REPORT (R140). -/
def reportOp (k : ErrorKind) (s : State) : State := (s.perform .report).call (.report k)

/-- RESCHED (R141): the constant `TICK_DELAY_MS`. -/
def reschedOp (s : State) : State := (s.perform .resched).call (.resched params.tickDelayMs)

/-! ## The series stores -/

/-- The push path (R103): both series grow by one element at the end and `COUNT` by one. -/
def pushBoth (fa fb : U16) (count : Fin 1001) (s : State) : State :=
  { s with sa := s.sa ++ [fa], sb := s.sb ++ [fb], count := count }

/-- The wrap-clear path (R104): `COUNT` and both series are emptied, with no seed. -/
def wrapClear (s : State) : State := { s with sa := [], sb := [], count := 0 }

/-- Below capacity `COUNT + 1` is still one of `COUNT`'s values. -/
theorem succ_count_lt (s : State) (h : ¬ s.count.val = params.capacity) : s.count.val + 1 < 1001 := by
  have h1 := s.count.isLt
  have h2 : params.capacity = 1000 := rfl
  omega

/-- `APPEND(fa, fb)` on the stores (R102): the test is on the `COUNT` the previous append left. -/
def appendBoth (fa fb : U16) (s : State) : State :=
  if h : s.count.val = params.capacity then wrapClear s
  else pushBoth fa fb ⟨s.count.val + 1, succ_count_lt s h⟩ s

/-- Construction (R181): every state element at its value of R39. -/
def construct (s : State) : State :=
  { s with sa := [params.seed], sb := [params.seed], count := 0, phase := .idle, fault := 0 }

/-! ## Error kinds and the end of a tick -/

/-- An operation taken alone raises an error kind: its `FAULT` bit is set, there is no result, and nothing
else changes (R89, R96, R121). -/
def raiseAlone (k : ErrorKind) (s : State) : State := (s.raise k).answer (.raised k)

/-- The end of every tick (R141, R142): RESCHED as the last act, back to `Waiting`, with an outcome. -/
def finishTick (o : TickOutcome) (s : State) : State :=
  ((reschedOp s).setPhase .waiting).answer (.outcome o)

/-- Taking an error kind in a tick (R167, R168): its `FAULT` bit, `Report(kind)`, `Resched(100)`, the end of
the tick. Nothing is saved and nothing switched; the return is the next tick (R169). -/
def earlyOut (k : ErrorKind) (s : State) : State :=
  finishTick (outcomeOf k) (reportOp k (s.raise k))

end Sys2Proof.Machine
end

