-- ==== Sys2Proof/Machine/Buffer.lean ====
section
/-! DEFINITION. The Windowed Sample Buffer (spec/42_sample_buffer.md) and construction reset
(spec/70_reset_and_hazards.md R181). -/

namespace Sys2Proof.Machine

/-- RESET (R181): clears the state to construction, makes no collaborator call. The record keeps what an
observer saw before it (DESIGN CHOICE, log entry 14). -/
def execReset (s : State) : Host.Outcome State Fault Refusal :=
  .next ((construct (s.perform .reset)).answer .nothing)

/-- APPEND (R102). -/
def execAppend (fa fb : U16) (s : State) : Host.Outcome State Fault Refusal :=
  .next ((appendBoth fa fb (s.perform .append)).answer .nothing)

/-- LAST (R105). -/
def execLast (ch : Channel) (s : State) : Host.Outcome State Fault Refusal :=
  .next ((s.perform .last).answer (.last (lastOf ch s)))

/-- SNAPSHOT (R106): both series by value. -/
def execSnapshot (s : State) : Host.Outcome State Fault Refusal :=
  .next ((s.perform .snapshot).answer (.series s.sa s.sb))

end Sys2Proof.Machine
end

