-- ==== Sys2Proof/Machine/Filter.lean ====
section
/-! DEFINITION. The Outlier Filter (spec/41_outlier_filter.md). -/

namespace Sys2Proof.Machine

/-- `FILTER(v, prev)` (R93): none where it raises `PrevUndefined` (R96). The comparison is unsigned. -/
def filterValue (v : U16) (prev : Option U16) : Option U16 :=
  if v.toNat ≤ params.threshold then some v else prev

/-- FILTER (R93). -/
def execFilter (v : U16) (prev : Option U16) (s : State) : Host.Outcome State Fault Refusal :=
  match filterValue v prev with
  | some f => .next ((s.perform .filter).answer (.value f))
  | none => .next (raiseAlone .prevUndefined (s.perform .filter))

end Sys2Proof.Machine
end

