-- ==== Sys2Proof/Syntax.lean ====
section
/-! DEFINITION. The instructions of PM-core: one constructor per row of spec/opcode_table.json, with the
operands of spec/30_encoding.md R70. Each is what one line of R78's stimulus notation or one operation
taken alone asks of the block. -/

namespace Sys2Proof

/-- One constructor per row of the opcode table, in the table's order. -/
inductive Instr where
  /-- FRAME (R65, R79): a frame with channel values `a` and `b` arrives and one tick takes it. -/
  | frame (a b : U16)
  /-- RESET (R181): construction reset. -/
  | reset
  /-- TICK (R144): one whole step; the Serial source answers `avail` and, if it is read, `rd`. -/
  | tick (avail : Nat) (rd : List Byte)
  /-- POLL (R134). -/
  | poll
  /-- READ4 (R135). -/
  | read4
  /-- DECODE (R85). -/
  | decode (buf : List Byte)
  /-- FILTER (R93); `prev = none` is the spec's *absent*. -/
  | filter (v : U16) (prev : Option U16)
  /-- APPEND (R102). -/
  | append (fa fb : U16)
  /-- LAST (R105). -/
  | last (ch : Channel)
  /-- SNAPSHOT (R106). -/
  | snapshot
  /-- XCORR (R115). -/
  | xcorr (x y : List U16)
  /-- PUBLISH (R139). -/
  | publish (ra rb : U16) (a b : List U16) (r : CorrResult)
  /-- REPORT (R140). -/
  | report (kind : ErrorKind)
  /-- RESCHED (R141); its operand is the constant `TICK_DELAY_MS`. -/
  | resched
deriving DecidableEq, Repr

end Sys2Proof
end

