-- ==== Sys2Proof/WellFormed.lean ====
section
/-! DEFINITION. Which instructions can be presented to the block at all. The spec types its operands more
tightly than plain lists do: a read has at most 4 bytes (R35, R91), both operands of XCORR have one length
(R122), and the payload of PUBLISH has one `n` and a result of `2n - 1` entries (R74, R75). -/

namespace Sys2Proof

/-- The check. A FRAME, a value operand, a channel and an error kind are well formed by their types. -/
def Instr.wellFormed : Instr → Bool
  | .tick _ rd => rd.length ≤ Machine.params.frameBytes
  | .decode buf => buf.length ≤ Machine.params.frameBytes
  | .xcorr x y => x.length == y.length
  | .publish _ _ a b r =>
      a.length == b.length && r.entries.length == 2 * a.length - 1 && r.den == a.length * a.length
  | .frame _ _ => true
  | .reset => true
  | .poll => true
  | .read4 => true
  | .filter _ _ => true
  | .append _ _ => true
  | .last _ => true
  | .snapshot => true
  | .report _ => true
  | .resched => true

/-- Well-formedness as a proposition. -/
abbrev Instr.WellFormed (i : Instr) : Prop := i.wellFormed = true

end Sys2Proof
end

