-- ==== Sys2Proof/Decode.lean ====
section
/-! DEFINITION. The decoder, total on any code and rejecting by name, and after it the encoder, both from
spec/30_encoding.md: the frame (R65 to R69) and the operation code (R70, R76). -/

namespace Sys2Proof

/-! ## The frame -/

/-- Word assembly (R66): the first byte to arrive is the least significant. -/
def assembleWord (b0 b1 b2 b3 : Byte) : U32 :=
  b0.setWidth 32 ||| (b1.setWidth 32 <<< 8) ||| (b2.setWidth 32 <<< 16) ||| (b3.setWidth 32 <<< 24)

/-- `channel_a = (value >> 16) & 0xFFFF` (R67). -/
def channelA (value : U32) : U16 := ((value >>> 16) &&& 0xFFFF#32).setWidth 16

/-- `channel_b = value & 0xFFFF` (R67). -/
def channelB (value : U32) : U16 := (value &&& 0xFFFF#32).setWidth 16

/-- The frame's two channel values `(a, b)` (R85); none where there are not exactly 4 bytes (R89, R91). -/
def decodeFrame : List Byte → Option (U16 × U16)
  | [b0, b1, b2, b3] =>
      let value := assembleWord b0 b1 b2 b3
      some (channelA value, channelB value)
  | _ => none

/-- `ENCODE(a, b)` (R68, R86): four bytes in arrival order. -/
def encodeFrame (a b : U16) : List Byte :=
  [(b &&& 0xFF#16).setWidth 8, ((b >>> 8) &&& 0xFF#16).setWidth 8,
   (a &&& 0xFF#16).setWidth 8, ((a >>> 8) &&& 0xFF#16).setWidth 8]

/-! ## The operation code -/

/-- The operation a 4-bit code stands for (R70); codes 0xD to 0xF are reserved (R76). -/
def opcOf (c : BitVec 4) : Option Opc :=
  match c.toNat with
  | 0x0 => some .reset
  | 0x1 => some .tick
  | 0x2 => some .poll
  | 0x3 => some .read4
  | 0x4 => some .decode
  | 0x5 => some .filter
  | 0x6 => some .append
  | 0x7 => some .last
  | 0x8 => some .snapshot
  | 0x9 => some .xcorr
  | 0xA => some .publish
  | 0xB => some .report
  | 0xC => some .resched
  | _ => none

/-- An operation with the operands R70 names for it. -/
def withOperands (o : Opc) (w : Operands) : Instr :=
  match o with
  | .reset => .reset
  | .tick => .tick w.avail w.bytes
  | .poll => .poll
  | .read4 => .read4
  | .decode => .decode w.bytes
  | .filter => .filter w.v w.prev
  | .append => .append w.fa w.fb
  | .last => .last w.ch
  | .snapshot => .snapshot
  | .xcorr => .xcorr w.x w.y
  | .publish => .publish w.ra w.rb w.x w.y w.corr
  | .report => .report w.kind
  | .resched => .resched

/-! ## The decoder -/

/-- Why a code is no instruction. -/
inductive DecodeError where
  /-- `OPC` 0xD, 0xE or 0xF (R76). -/
  | reservedOpc (c : BitVec 4)
  /-- Fewer than 4 bytes are not a frame at all (R69, R89). -/
  | incompleteFrame (n : Nat)
  /-- More than 4 bytes cannot be presented as a frame (R91). -/
  | overlongFrame (n : Nat)
deriving DecidableEq, Repr

/-- The decoder. Every 4-byte frame is legal (R69); every code but the reserved ones is an operation. -/
def decode : Code → Except DecodeError Instr
  | .frame bytes =>
      match decodeFrame bytes with
      | some (a, b) => .ok (.frame a b)
      | none =>
          if bytes.length < Machine.params.frameBytes then .error (.incompleteFrame bytes.length)
          else .error (.overlongFrame bytes.length)
  | .op w =>
      match opcOf w.opc with
      | some o => .ok (withOperands o w.args)
      | none => .error (.reservedOpc w.opc)

/-! ## The encoder -/

/-- The code of an instruction: FRAME by R68, an operation by its `OPC` of R70 with the operands it has and
zeros elsewhere. -/
def encode : Instr → Code
  | .frame a b => .frame (encodeFrame a b)
  | .reset => .op ⟨0x0, {}⟩
  | .tick avail rd => .op ⟨0x1, { avail := avail, bytes := rd }⟩
  | .poll => .op ⟨0x2, {}⟩
  | .read4 => .op ⟨0x3, {}⟩
  | .decode buf => .op ⟨0x4, { bytes := buf }⟩
  | .filter v prev => .op ⟨0x5, { v := v, prev := prev }⟩
  | .append fa fb => .op ⟨0x6, { fa := fa, fb := fb }⟩
  | .last ch => .op ⟨0x7, { ch := ch }⟩
  | .snapshot => .op ⟨0x8, {}⟩
  | .xcorr x y => .op ⟨0x9, { x := x, y := y }⟩
  | .publish ra rb a b r => .op ⟨0xA, { ra := ra, rb := rb, x := a, y := b, corr := r }⟩
  | .report kind => .op ⟨0xB, { kind := kind }⟩
  | .resched => .op ⟨0xC, {}⟩

/-! ## Words numbered as the opcode table numbers them -/

/-- The four bytes of a 32-bit table word, lowest first (R50, R65). -/
def frameBytesOf (w : Nat) : List Byte :=
  [BitVec.ofNat 8 w, BitVec.ofNat 8 (w / 256), BitVec.ofNat 8 (w / 65536), BitVec.ofNat 8 (w / 16777216)]

/-- The code that a table word of `nbits` bits stands for (DESIGN CHOICE, log entry 17): a row of 32 bits is a frame, a
row of 4 bits (one whole byte) is an operation code with every operand at its zero. No code has any other
width, and no bit may be set above the width. -/
def tableCode (nbits w : Nat) : Option Code :=
  if nbits = 4 ∨ nbits = 8 then
    if w < 16 then some (.op ⟨BitVec.ofNat 4 w, {}⟩) else none
  else if nbits = 32 then
    if w < 4294967296 then some (.frame (frameBytesOf w)) else none
  else none

/-- The instruction the decoder reads from a word of the opcode table. -/
def decodeTableWord (nbits w : Nat) : Option Instr :=
  match tableCode nbits w with
  | some c => (decode c).toOption
  | none => none

end Sys2Proof
end

