-- ==== Sys2Proof/Machine/FrameDecoder.lean ====
section
/-! DEFINITION. The Frame Decoder (spec/40_frame_decoder.md). -/

namespace Sys2Proof.Machine

/-- DECODE (R85): the channel values of exactly 4 bytes, `IncompleteFrame` for fewer (R89); more than 4 bytes
cannot be presented and are refused (R91). -/
def execDecode (buf : List Byte) (s : State) : Host.Outcome State Fault Refusal :=
  if params.frameBytes < buf.length then .refused (.overlongRead buf.length)
  else
    match decodeFrame buf with
    | some (a, b) => .next ((s.perform .decode).answer (.sample a b))
    | none => .next (raiseAlone .incompleteFrame (s.perform .decode))

end Sys2Proof.Machine
end

