-- ==== Sys2Proof/Machine/Xcorr.lean ====
section
/-! DEFINITION. The Cross-Correlation Engine (spec/43_xcorr_engine.md), in the exact integer form of R119,
and beside it the source's own formula over the rationals (R116, R117), which it is held to. -/

namespace Sys2Proof.Machine

/-! ## The exact integer form -/

/-- `Sx` (R119): the sum of a series in `Z`. -/
def seriesSum (x : List U16) : Int := (x.map (fun (v : U16) => (v.toNat : Int))).sum

/-- `X[i] = n * x[i] - Sx` (R119): `n` times the mean-centred series. -/
def centred (x : List U16) : List Int :=
  x.map (fun (v : U16) => (x.length : Int) * (v.toNat : Int) - seriesSum x)

/-- `num[k]` (R119) as the dot product of two windows (R129): `X` from `max(0, k)` against `Y` from
`max(0, -k)`, as far as both go. -/
def numerator (xs ys : List Int) (k : Int) : Int :=
  (List.zipWith (fun a b => a * b) (xs.drop k.toNat) (ys.drop (-k).toNat)).sum

/-- The lags `-(n-1)` to `n-1` in ascending order (R118): `2n - 1` of them. -/
def lags (n : Nat) : List Int := (List.range (2 * n - 1)).map (fun (p : Nat) => (p : Int) - ((n : Int) - 1))

/-- `XCORR(x, y)` for two operands of one length `n` (R115): none where it raises `EngineMisuse`, `n < 2`. -/
def xcorr (x y : List U16) : Option CorrResult :=
  if x.length < params.nMin then none
  else
    let xs := centred x
    let ys := centred y
    some ⟨x.length * x.length, (lags x.length).map (fun k => (k, numerator xs ys k))⟩

/-- XCORR (R115). Unequal lengths cannot be presented and are refused (R122). -/
def execXcorr (x y : List U16) (s : State) : Host.Outcome State Fault Refusal :=
  if x.length ≠ y.length then .refused (.unequalLengths x.length y.length)
  else
    match xcorr x y with
    | some r => .next ((s.perform .xcorr).answer (.corr r))
    | none => .next (raiseAlone .engineMisuse (s.perform .xcorr))

/-! ## The source's formula, for any rational elements -/

/-- `mean(x)`, an exact rational (R116). -/
def meanQ (x : List ℚ) : ℚ := x.sum / (x.length : ℚ)

/-- `x' = x - mean(x)`, elementwise (R116). -/
def centredQ (x : List ℚ) : List ℚ := x.map (fun v => v - meanQ x)

/-- `corr[k]` (R117): the sum of `x'[i] * y'[i - k]` over the valid `i`, those with `0 <= i <= n - 1` and
`0 <= i - k <= n - 1`. A valid index is inside both lists, so the 0 of `getD` is never read. -/
def corrQ (x y : List ℚ) (k : Int) : ℚ :=
  ∑ i ∈ Finset.range x.length,
    if 0 ≤ (i : Int) - k ∧ (i : Int) - k ≤ (x.length : Int) - 1 then
      (centredQ x).getD i 0 * (centredQ y).getD ((i : Int) - k).toNat 0
    else 0

/-- A series as rationals. -/
def toQ (x : List U16) : List ℚ := x.map (fun (v : U16) => (v.toNat : ℚ))

end Sys2Proof.Machine
end

