-- ==== Sys2Proof/Machine/Tick.lean ====
section
/-! DEFINITION. The Acquisition Loop (spec/44_acquisition_tick.md): the tick as R144 writes it, one
definition per phase of R142, and the operations that call a collaborator, taken alone. -/

namespace Sys2Proof.Machine

/-! ## The tick -/

/-- Step 4 on the snapshot of a state (R138, R139): if the length exceeds 1, XCORR over the full series and
PUBLISH of the last elements, the series and the result; then step 5. -/
def renderSnapshot (cleared : Bool) (s : State) : Host.Outcome State Fault Refusal :=
  if h : 1 < s.sa.length then
    if e : s.sa.length = s.sb.length then
      match xcorr s.sa s.sb with
      | none => .next (earlyOut .engineMisuse (s.perform .xcorr))
      | some r =>
          let ra := s.sa.getLast (List.ne_nil_of_length_pos (by omega))
          let rb := s.sb.getLast (List.ne_nil_of_length_pos (by omega))
          .next (finishTick .published (publishOp ⟨ra, rb, s.sa, s.sb, r⟩ (s.perform .xcorr)))
    else .refused (.unequalLengths s.sa.length s.sb.length)
  else .next (finishTick (if cleared then .cleared else .appended) s)

/-- Step 4, in `Rendering` (R142): SNAPSHOT, then what follows from it. -/
def tickRender (cleared : Bool) (s : State) : Host.Outcome State Fault Refusal :=
  renderSnapshot cleared ((s.setPhase .rendering).perform .snapshot)

/-- The append of step 3, in `Buffering`: `cleared` is the test `COUNT = 1000` before it (R144). -/
def tickAppend (fa fb : U16) (s : State) : Host.Outcome State Fault Refusal :=
  tickRender (s.count.val == params.capacity)
    (appendBoth fa fb ((s.setPhase .buffering).perform .append))

/-- The filter of step 3, in `Filtering` (R136, R137): both LAST reads, then both FILTER evaluations on them.
If one of the two would raise, the tick ends `PrevUndefined` before either (R144, conflict C9). -/
def tickFilter (a b : U16) (s : State) : Host.Outcome State Fault Refusal :=
  let s := ((s.setPhase .filtering).perform .last).perform .last
  match filterValue a (lastOf .A s), filterValue b (lastOf .B s) with
  | some fa, some fb => tickAppend fa fb ((s.perform .filter).perform .filter)
  | some _, none => .next (earlyOut .prevUndefined s)
  | none, some _ => .next (earlyOut .prevUndefined s)
  | none, none => .next (earlyOut .prevUndefined s)

/-- The decode of step 3, in `Decoding`. -/
def tickDecode (buf : List Byte) (s : State) : Host.Outcome State Fault Refusal :=
  let s := (s.setPhase .decoding).perform .decode
  match decodeFrame buf with
  | none => .next (earlyOut .incompleteFrame s)
  | some (a, b) => tickFilter a b s

/-- Step 2, in `Waiting`: READ4, and `ShortRead` where it gave fewer than 4 bytes (R157). -/
def tickRead (rd : List Byte) (s : State) : Host.Outcome State Fault Refusal :=
  let s := read4Op rd s
  if rd.length < params.frameBytes then .next (earlyOut .shortRead s) else tickDecode rd s

/-- `TICK(avail, rd)` (R144). Step 1, in `Waiting`: POLL, and `SourceNotReady` where fewer than 4 bytes are
available, in which case `rd` is not looked at (R156, R166). -/
def tick (avail : Nat) (rd : List Byte) (s : State) : Host.Outcome State Fault Refusal :=
  let s := pollOp avail ((s.perform .tick).setPhase .waiting)
  if avail < params.frameBytes then .next (earlyOut .sourceNotReady s) else tickRead rd s

/-- TICK (R144). A read of more than 4 bytes cannot be presented and is refused (R35, decision D13). -/
def execTick (avail : Nat) (rd : List Byte) (s : State) : Host.Outcome State Fault Refusal :=
  if params.frameBytes ≤ avail ∧ params.frameBytes < rd.length then .refused (.overlongRead rd.length)
  else tick avail rd s

/-- FRAME (R79): `TICK avail=4 read=<ENCODE(a, b)>`. -/
def execFrame (a b : U16) (s : State) : Host.Outcome State Fault Refusal :=
  tick params.frameBytes (encodeFrame a b) s

/-! ## The collaborator operations, taken alone -/

/-- POLL (R134): the source's answer; the source is not changed. -/
def execPoll (s : State) : Host.Outcome State Fault Refusal :=
  .next ((pollOp (srcAvail s) s).drawn.answer (.avail (srcAvail s)))

/-- READ4 (R135): the source's answer, whose bytes the source loses. -/
def execRead4 (s : State) : Host.Outcome State Fault Refusal :=
  .next ((read4Op (srcBytes s) s).drawn.consumed.answer (.bytes (srcBytes s)))

/-- PUBLISH (R139): one call to the display, which cannot refuse. -/
def execPublish (ra rb : U16) (a b : List U16) (r : CorrResult) (s : State) :
    Host.Outcome State Fault Refusal :=
  .next ((publishOp ⟨ra, rb, a, b, r⟩ s).answer .nothing)

/-- REPORT (R140): one call to the console/log. -/
def execReport (k : ErrorKind) (s : State) : Host.Outcome State Fault Refusal :=
  .next ((reportOp k s).answer .nothing)

/-- RESCHED (R141): one request to the Scheduler. -/
def execResched (s : State) : Host.Outcome State Fault Refusal :=
  .next ((reschedOp s).answer .nothing)

end Sys2Proof.Machine
end

