-- ==== Sys2Proof/Machine/Dispatch.lean ====
section
/-! DEFINITION. One arm per instruction of spec/opcode_table.json: each calls its meaning. -/

namespace Sys2Proof.Machine

def exec (i : Instr) (s : State) : Host.Outcome State Fault Refusal :=
  match i with
  | .frame a b => Sys2Proof.Machine.execFrame a b s
  | .reset => Sys2Proof.Machine.execReset s
  | .tick avail rd => Sys2Proof.Machine.execTick avail rd s
  | .poll => Sys2Proof.Machine.execPoll s
  | .read4 => Sys2Proof.Machine.execRead4 s
  | .decode buf => Sys2Proof.Machine.execDecode buf s
  | .filter v prev => Sys2Proof.Machine.execFilter v prev s
  | .append fa fb => Sys2Proof.Machine.execAppend fa fb s
  | .last ch => Sys2Proof.Machine.execLast ch s
  | .snapshot => Sys2Proof.Machine.execSnapshot s
  | .xcorr x y => Sys2Proof.Machine.execXcorr x y s
  | .publish ra rb a b r => Sys2Proof.Machine.execPublish ra rb a b r s
  | .report kind => Sys2Proof.Machine.execReport kind s
  | .resched => Sys2Proof.Machine.execResched s

end Sys2Proof.Machine
end

