-- ==== Sys2Proof/Machine/Fetch.lean ====
section
/-! DEFINITION. What runs next (DESIGN CHOICE, log entry 3). PM-core fetches no instructions (spec/10_state.md R29): left to
itself it runs one tick per step (R133), on what the Serial source answers. What is presented on the
command port, a stimulus line (R78) or an operation taken alone, runs first. -/

namespace Sys2Proof.Machine

/-- The refusal for a code that is no instruction. -/
def refusalOf : DecodeError → Refusal
  | .reservedOpc c => .reservedOpc c
  | .incompleteFrame n => .overlongRead n
  | .overlongFrame n => .overlongRead n

/-- The state in which the block's own tick runs: an answer of the source has been drawn, and where the tick
will read (`avail >= 4`, R55) the source has given up what it answers. -/
def afterSource (s : State) : State :=
  if srcAvail s < params.frameBytes then s.drawn else s.drawn.consumed

/-- The block's own next tick (R38, R133): TICK on the answers of the source. -/
def ownTick (s : State) : Instr := .tick (srcAvail s) (srcBytes s)

/-- The next instruction and the state in which it runs. -/
def fetch (s : State) : Except Refusal (Instr × State) :=
  match s.cmds with
  | w :: rest =>
      match decode (.op w) with
      | .ok i => .ok (i, { s with cmds := rest })
      | .error e => .error (refusalOf e)
  | [] => .ok (ownTick s, afterSource s)

/-- A code placed where the next step takes it from: an operation word at the head of the command port; a
frame as the bytes waiting at the Serial source, with nothing on the command port. -/
def place (c : Code) (s : State) : State :=
  match c with
  | .op w => { s with cmds := w :: s.cmds }
  | .frame bytes => { s with cmds := [], source := .queue bytes }

end Sys2Proof.Machine
end

