-- ==== Sys2Proof/Machine/Step.lean ====
section
/-! DEFINITION. One step of the machine, and the placing of one instruction for the next step. -/

namespace Sys2Proof.Machine

/-- One step: what is on the command port, else the block's own tick. -/
def step (s : State) : Host.Outcome State Fault Refusal :=
  match fetch s with
  | .ok (i, s') => exec i s'
  | .error r => .refused r

/-- The state with the instruction of a table word placed so that the very next step runs it; a word that is
no code of the table changes nothing. -/
def State.withFetchWord (s : State) (nbits w : Nat) : State :=
  match tableCode nbits w with
  | some c => place c s
  | none => s

end Sys2Proof.Machine
end

