-- ==== Sys2Proof/Safety.lean ====
section
/-! DEFINITION. What counts as a sound state and a safe run, in the terms of spec/10_state.md R27. -/

namespace Sys2Proof

open Machine

/-- The structure every step keeps, whatever is presented: I1 (equal lengths), I3 (`SEEDED` is 0 or 1), and the
values `PHASE` has between ticks (R25). I2 is the type of `COUNT`, and I4 follows. -/
def Sound (s : State) : Prop :=
  s.sa.length = s.sb.length ∧
  (s.sa.length = s.count.val ∨ s.sa.length = s.count.val + 1) ∧
  (s.phase = .idle ∨ s.phase = .waiting)

/-- An operation word that is a line of R78's stimulus notation: RESET or TICK. -/
def IsStimulus (w : OpWord) : Prop := w.opc = 0x0 ∨ w.opc = 0x1

/-- The states PM-core itself reaches from construction reset (R27): I1 to I4, I5 (every element at most 6000),
I6 (`FAULT[1] = FAULT[2] = 0`), with only stimulus lines waiting on the command port. -/
def Reachable (s : State) : Prop :=
  Sound s ∧
  (∀ v ∈ s.sa, v.toNat ≤ 6000) ∧ (∀ v ∈ s.sb, v.toNat ≤ 6000) ∧
  s.fault &&& 0b110#3 = 0#3 ∧
  (∀ w ∈ s.cmds, IsStimulus w)

/-- The instruction is a tick that gets the frame `(a, b)`: FRAME (R79), or a TICK that reads its 4 bytes. -/
def TakesFrame (i : Instr) (a b : U16) : Prop :=
  i = .frame a b ∨ ∃ (avail : Nat) (rd : List Byte), 4 ≤ avail ∧ decodeFrame rd = some (a, b) ∧ i = .tick avail rd

/-- "No fault recorded" (R26). -/
def NoFault (s : State) : Prop := s.fault = 0#3

end Sys2Proof
end

