-- ==== Sys2Proof/Certificates/Slice0/Obligations.lean ====
section
/-! DEFINITION. The statements for the provers, from the numbered rules of spec/. An equation
`exec i s = .next { s with … }` says three things at once: the instruction completes, what it writes, and
that it leaves every other field as it was. The fields `source`, `draws`, `cmds`, `calls`, `trace` and `ret`
are the model's own (log entries 1 to 7). -/

open Sys2Proof Sys2Proof.Machine

/-! ## Encoding -/

/-- R87: DECODE and ENCODE are inverse to each other, on every pair of values and on every 4 bytes. R87 marks the
second half, on every 4 bytes, as its own inference, not the source's. -/
def Obligations.FrameRoundTrip : Prop :=
  (∀ a b : U16, decodeFrame (encodeFrame a b) = some (a, b)) ∧
  (∀ bytes : List Byte, bytes.length = 4 →
    ∃ a b, decodeFrame bytes = some (a, b) ∧ encodeFrame a b = bytes)

/-- Decoding the encoding of any instruction gives it back, every operand at every value (R65, R68, R70; the
operand bundle of an operation word is the model's own, log entry 4). -/
def Obligations.EveryInstructionRoundTrips : Prop :=
  ∀ i : Instr, decode (encode i) = .ok i

/-- R50, R66: byte 0 is the least significant of the word. R51, R67: `a` is the number in bytes 2 and 3 and `b`
the number in bytes 0 and 1, each low byte first, which R51 marks as its own inference from R50 and R67. -/
def Obligations.FrameIsLittleEndian : Prop :=
  ∀ b0 b1 b2 b3 : Byte,
    (assembleWord b0 b1 b2 b3).toNat =
      b0.toNat + 256 * b1.toNat + 65536 * b2.toNat + 16777216 * b3.toNat ∧
    ∃ a b, decodeFrame [b0, b1, b2, b3] = some (a, b) ∧
      a.toNat = b2.toNat + 256 * b3.toNat ∧ b.toNat = b0.toNat + 256 * b1.toNat

/-- A few words written out from R65 and R70, decoded (95_test_vectors.md V-D1, V-D4, V-D5 and the codes). -/
def Obligations.WordsFromTheTableDecode : Prop :=
  decode (.frame [0x00, 0x00, 0x01, 0x00]) = .ok (.frame 1 0) ∧
  decode (.frame [0x32, 0x00, 0x58, 0x1B]) = .ok (.frame 7000 50) ∧
  decode (.frame [0x78, 0x56, 0x34, 0x12]) = .ok (.frame 4660 22136) ∧
  decodeTableWord 32 0x12345678 = some (.frame 0x1234 0x5678) ∧
  decodeTableWord 4 0x0 = some .reset ∧
  decodeTableWord 4 0x2 = some .poll ∧
  decodeTableWord 4 0x8 = some .snapshot ∧
  decodeTableWord 4 0xC = some .resched ∧
  decodeTableWord 4 0xD = none

/-- R70, R76: the thirteen codes 0x0 to 0xC are operations, whatever the operands, and 0xD to 0xF are none; a
reserved code on the command port is refused by name (decision D6). Model's own fields (log entries): `cmds` 3.
-/
def Obligations.ReservedCodesRefused : Prop :=
  (∀ (c : BitVec 4) (w : Operands),
    (decode (.op ⟨c, w⟩) = .error (.reservedOpc c) ↔ 13 ≤ c.toNat) ∧
    (c.toNat < 13 → ∃ o : Opc, o.code = c ∧ decode (.op ⟨c, w⟩) = .ok (withOperands o w))) ∧
  (∀ (s : State) (w : OpWord) (rest : List OpWord), s.cmds = w :: rest → 13 ≤ w.opc.toNat →
    step s = .refused (.reservedOpc w.opc))

/-! ## The step -/

/-- What stands first on the command port is decoded and run, and is gone from the port. Model's own fields (log
entries): `cmds` 3. -/
def Obligations.StepRunsPresentedCommand : Prop :=
  ∀ (s : State) (w : OpWord) (rest : List OpWord) (i : Instr),
    s.cmds = w :: rest → decode (.op w) = .ok i → step s = exec i { s with cmds := rest }

/-- R79, R133: with nothing on the port and exactly one frame at a queueing source, the step is that FRAME; the
source has given up its bytes and one answer has been drawn. Model's own fields (log entries): `source` 2,
`draws` 1, `cmds` 3. -/
def Obligations.StepRunsFrameAtSource : Prop :=
  ∀ (s : State) (bytes : List Byte) (i : Instr),
    s.cmds = [] → s.source = .queue bytes → decode (.frame bytes) = .ok i →
    step s = exec i { s with source := .queue [], draws := s.draws + 1 }

/-- R38, R133: with nothing on the port the step is one tick on what the source answers, free or queued, and a
queue loses the bytes it answers only where the tick reads. Model's own fields (log entries): `source` 2,
`draws` 1, `cmds` 3. -/
def Obligations.StepRunsOwnTick : Prop :=
  ∀ s : State, s.cmds = [] →
    (s.source = .free →
      step s = exec (.tick (Config.srcAvail s.draws) ((Config.srcBytes s.draws).take 4))
        { s with draws := s.draws + 1 }) ∧
    (∀ q, s.source = .queue q → q.length < 4 →
      step s = exec (.tick q.length q) { s with draws := s.draws + 1 }) ∧
    (∀ q, s.source = .queue q → 4 ≤ q.length →
      step s = exec (.tick q.length (q.take 4))
        { s with draws := s.draws + 1, source := .queue (q.drop 4) })

/-! ## Reset -/

/-- R39: the state after construction reset. `COUNT = 0` is an inference of the spec (R23) and `FAULT = 0` its
decision D8. -/
def Obligations.ResetStateValues : Prop :=
  State.reset.sa = [0] ∧ State.reset.sb = [0] ∧ State.reset.count.val = 0 ∧
  State.reset.len = 1 ∧ State.reset.seeded = 1 ∧
  State.reset.phase = .idle ∧ State.reset.fault = 0b000

/-- R181: RESET writes every state element, calls no collaborator and leaves the source alone; the record keeps
what was seen before (log entry 14). Model's own fields (log entries): `ret` 5, `trace` 7. -/
def Obligations.ResetWritesEveryElement : Prop :=
  ∀ s : State, exec .reset s =
    .next { s with
      sa := [0], sb := [0], count := 0, phase := .idle, fault := 0b000
      trace := s.trace ++ [⟨s.phase, .reset⟩], ret := .nothing }

/-! ## Frame Decoder -/

/-- R85: DECODE of 4 bytes gives `a = value[31:16]` and `b = value[15:0]`. Model's own fields (log entries):
`ret` 5, `trace` 7. -/
def Obligations.DecodeGivesBothChannels : Prop :=
  ∀ (s : State) (b0 b1 b2 b3 : Byte), exec (.decode [b0, b1, b2, b3]) s =
    .next { s with
      ret := .sample (BitVec.ofNat 16 (b2.toNat + 256 * b3.toNat)) (BitVec.ofNat 16 (b0.toNat + 256 * b1.toNat))
      trace := s.trace ++ [⟨s.phase, .decode⟩] }

/-- R89, R162: fewer than 4 bytes raise `IncompleteFrame`: no values, `FAULT[2]` set, nothing else. Model's own
fields (log entries): `ret` 5, `trace` 7. -/
def Obligations.DecodeOfTooFewBytesRaises : Prop :=
  ∀ (s : State) (buf : List Byte), buf.length < 4 → exec (.decode buf) s =
    .next { s with
      fault := s.fault ||| 0b100, ret := .raised .incompleteFrame
      trace := s.trace ++ [⟨s.phase, .decode⟩] }

/-- R91, R35: more than 4 bytes cannot be presented: DECODE of them is refused, and so is a TICK that would
read them, but not a TICK that does not read. -/
def Obligations.OverlongReadsRefused : Prop :=
  ∀ (s : State) (buf : List Byte), 4 < buf.length →
    exec (.decode buf) s = .refused (.overlongRead buf.length) ∧
    (∀ avail, 4 ≤ avail → exec (.tick avail buf) s = .refused (.overlongRead buf.length)) ∧
    (∀ avail, avail < 4 → ∃ t, exec (.tick avail buf) s = .next t)

/-! ## Outlier Filter -/

/-- R93: `v` if it is at most 6000, else `prev` if present, else `PrevUndefined` with `FAULT[0]` set. Model's
own fields (log entries): `ret` 5, `trace` 7. -/
def Obligations.FilterClampsOrRaises : Prop :=
  ∀ (s : State) (v : U16),
    (v.toNat ≤ 6000 → ∀ prev, exec (.filter v prev) s =
      .next { s with ret := .value v, trace := s.trace ++ [⟨s.phase, .filter⟩] }) ∧
    (6000 < v.toNat → ∀ p, exec (.filter v (some p)) s =
      .next { s with ret := .value p, trace := s.trace ++ [⟨s.phase, .filter⟩] }) ∧
    (6000 < v.toNat → exec (.filter v none) s =
      .next { s with
        fault := s.fault ||| 0b001, ret := .raised .prevUndefined
        trace := s.trace ++ [⟨s.phase, .filter⟩] })

/-- R98 L2, R97: with a `prev` in range the filter is idempotent and its result in range. -/
def Obligations.FilterIsIdempotent : Prop :=
  ∀ (v prev f : U16), prev.toNat ≤ 6000 → filterValue v (some prev) = some f →
    filterValue f (some prev) = some f ∧ f.toNat ≤ 6000

/-! ## Windowed Sample Buffer -/

/-- R103: below capacity APPEND pushes both values at the end, at index `LEN`, and counts one. Model's own
fields (log entries): `ret` 5, `trace` 7. -/
def Obligations.AppendPushesBoth : Prop :=
  ∀ (s : State) (fa fb : U16) (h : s.count.val < 1000),
    exec (.append fa fb) s =
      .next { s with
        sa := s.sa ++ [fa], sb := s.sb ++ [fb], count := ⟨s.count.val + 1, Nat.succ_lt_succ h⟩
        ret := .nothing, trace := s.trace ++ [⟨s.phase, .append⟩] } ∧
    (s.sa ++ [fa]).getLast? = some fa ∧ (s.sb ++ [fb]).getLast? = some fb ∧
    (s.sa ++ [fa])[s.sa.length]? = some fa ∧ (s.sb ++ [fb])[s.sb.length]? = some fb

/-- R104: the append that finds `COUNT = 1000` pushes nothing and empties everything, with no seed. Model's own
fields (log entries): `ret` 5, `trace` 7. -/
def Obligations.AppendAtCapacityClears : Prop :=
  ∀ (s : State) (fa fb : U16), s.count.val = 1000 → exec (.append fa fb) s =
    .next { s with
      sa := [], sb := [], count := 0, ret := .nothing, trace := s.trace ++ [⟨s.phase, .append⟩] }

/-- R105: LAST returns the element at `LEN - 1`, or absent for an empty series, and writes nothing. Model's own
fields (log entries): `ret` 5, `trace` 7. -/
def Obligations.LastReadsTheNewest : Prop :=
  ∀ s : State,
    (exec (.last .A) s = .next { s with
      ret := .last (if 1 ≤ s.sa.length then s.sa[s.sa.length - 1]? else none)
      trace := s.trace ++ [⟨s.phase, .last⟩] }) ∧
    (exec (.last .B) s = .next { s with
      ret := .last (if 1 ≤ s.sb.length then s.sb[s.sb.length - 1]? else none)
      trace := s.trace ++ [⟨s.phase, .last⟩] }) ∧
    (∀ (x : U16) (l : List U16), (l ++ [x])[(l ++ [x]).length - 1]? = some x)

/-- R106: SNAPSHOT returns both series as they stand and writes nothing. Model's own fields (log entries): `ret`
5, `trace` 7. -/
def Obligations.SnapshotReadsBothSeries : Prop :=
  ∀ s : State, exec .snapshot s =
    .next { s with ret := .series s.sa s.sb, trace := s.trace ++ [⟨s.phase, .snapshot⟩] }

/-- R107, R110, on the buffer's operation: after `m` appends from construction, `COUNT` is `m mod 1001`, and both
lengths are `m + 1` in epoch 0 and `m mod 1001` in every later epoch. Every append is one accepted step (R107),
and what TICK and APPEND make of it is said by their own statements. -/
def Obligations.AppendCycleHasPeriod1001 : Prop :=
  ∀ steps : List (U16 × U16),
    let t := steps.foldl (fun s p => appendBoth p.1 p.2 s) State.reset
    t.count.val = steps.length % 1001 ∧
    t.sa.length = (if steps.length < 1001 then steps.length + 1 else steps.length % 1001) ∧
    t.sb.length = t.sa.length

/-! ## Cross-Correlation Engine -/

/-- R115, R118, R119: for two operands of one length `n ≥ 2`, XCORR returns `den = n * n` and `2n - 1` entries;
entry `p` has lag `k = p - (n - 1)` and `num[k]`, the sum over the valid `i` of `X[i] * Y[i - k]`, where `X[i] =
n * x[i] - Sx` and `Y[j] = n * y[j] - Sy`. Model's own fields (log entries): `ret` 5, `trace` 7. -/
def Obligations.XcorrReturnsExactResult : Prop :=
  ∀ (s : State) (x y : List U16) (n : Nat), x.length = n → y.length = n → 2 ≤ n →
    ∃ r : CorrResult,
      exec (.xcorr x y) s =
        .next { s with ret := .corr r, trace := s.trace ++ [⟨s.phase, .xcorr⟩] } ∧
      r.den = n * n ∧ r.entries.length = 2 * n - 1 ∧
      ∀ p : Nat, p < 2 * n - 1 →
        r.entries[p]? = some ((p : Int) - ((n : Int) - 1),
          ∑ i ∈ Finset.range n,
            if 0 ≤ (i : Int) - ((p : Int) - ((n : Int) - 1)) ∧
                (i : Int) - ((p : Int) - ((n : Int) - 1)) ≤ (n : Int) - 1 then
              ((n : Int) * ((x.getD i 0).toNat : Int) - (x.map (fun (v : U16) => (v.toNat : Int))).sum) *
              ((n : Int) * ((y.getD ((i : Int) - ((p : Int) - ((n : Int) - 1))).toNat 0).toNat : Int) -
                (y.map (fun (v : U16) => (v.toNat : Int))).sum)
            else 0)

/-- R116, R117, R119: every entry is, as the rational `num / den`, the source's mean-centred sum `corr[k]`.
Model's own fields (log entries): `ret` 5. -/
def Obligations.XcorrEqualsMeanCentredFormula : Prop :=
  ∀ (s t : State) (x y : List U16) (r : CorrResult),
    exec (.xcorr x y) s = .next t → t.ret = .corr r →
    r.entries.length = 2 * x.length - 1 ∧
    ∀ e ∈ r.entries, (e.2 : ℚ) / (r.den : ℚ) = corrQ (toQ x) (toQ y) e.1

/-- R121, R161: with fewer than 2 samples XCORR raises `EngineMisuse`: no result, `FAULT[1]` set. Model's own
fields (log entries): `ret` 5, `trace` 7. -/
def Obligations.XcorrOfTooFewRaises : Prop :=
  ∀ (s : State) (x y : List U16), x.length = y.length → x.length < 2 → exec (.xcorr x y) s =
    .next { s with
      fault := s.fault ||| 0b010, ret := .raised .engineMisuse
      trace := s.trace ++ [⟨s.phase, .xcorr⟩] }

/-- R122, decision D14: operands of unequal length cannot be presented and are refused. -/
def Obligations.XcorrOfUnequalLengthsRefused : Prop :=
  ∀ (s : State) (x y : List U16), x.length ≠ y.length →
    exec (.xcorr x y) s = .refused (.unequalLengths x.length y.length)

/-- R124 on the engine: exchanging the operands turns the list of numerators round, and leaves `den`. -/
def Obligations.XcorrIsSymmetric : Prop :=
  ∀ (x y : List U16) (r q : CorrResult), x.length = y.length → xcorr x y = some r → xcorr y x = some q →
    q.den = r.den ∧ q.entries.map Prod.snd = (r.entries.map Prod.snd).reverse ∧
    q.entries.map Prod.fst = r.entries.map Prod.fst

/-- R125: the numerators of a result add up to 0. -/
def Obligations.XcorrEntriesSumToZero : Prop :=
  ∀ (x y : List U16) (r : CorrResult), x.length = y.length → xcorr x y = some r →
    (r.entries.map Prod.snd).sum = 0

/-- R126: for `y = x` no entry exceeds, in size, the one at lag 0. -/
def Obligations.AutocorrelationPeaksAtLagZero : Prop :=
  ∀ (x : List U16) (r : CorrResult), xcorr x x = some r →
    ∃ m : Int, (0, m) ∈ r.entries ∧ 0 ≤ m ∧ ∀ e ∈ r.entries, |e.2| ≤ m

/-- R127: a constant operand, on either side, makes every numerator 0. -/
def Obligations.ConstantInputGivesZero : Prop :=
  ∀ (x y : List U16) (r : CorrResult) (c : U16), x.length = y.length → xcorr x y = some r →
    ((∀ v ∈ x, v = c) ∨ (∀ v ∈ y, v = c)) → ∀ e ∈ r.entries, e.2 = 0

/-- R131: the smallest case, `n = 2`, written out. Model's own fields (log entries): `ret` 5, `trace` 7. -/
def Obligations.XcorrOfTwoSamples : Prop :=
  ∀ (s : State) (x0 x1 y0 y1 : U16),
    let dx : Int := (x1.toNat : Int) - (x0.toNat : Int)
    let dy : Int := (y1.toNat : Int) - (y0.toNat : Int)
    exec (.xcorr [x0, x1] [y0, y1]) s =
      .next { s with
        ret := .corr ⟨4, [(-1, -dx * dy), (0, 2 * dx * dy), (1, -dx * dy)]⟩
        trace := s.trace ++ [⟨s.phase, .xcorr⟩] }

/-- R74, R120: up to 1001 samples of any `u16` values, the result stream of 11-bit lags, 64-bit numerators and a
20-bit denominator holds every value exactly. -/
def Obligations.ResultWidthsHoldEveryValue : Prop :=
  ∀ (x y : List U16) (r : CorrResult), x.length = y.length → x.length ≤ 1001 → xcorr x y = some r →
    r.wire.1.toNat = r.den ∧
    r.wire.2.map (fun w => (w.1.toInt, w.2.toInt)) = r.entries

/-! ## The collaborator operations, taken alone -/

/-- R134, R35: POLL returns what the source answers and changes nothing at the source. Model's own fields (log
entries): `source` 2, `draws` 1, `ret` 5, `calls` 6, `trace` 7. -/
def Obligations.PollAnswersTheCount : Prop :=
  ∀ s : State,
    (∀ q, s.source = .queue q → exec .poll s =
      .next { s with
        draws := s.draws + 1, ret := .avail q.length
        calls := s.calls ++ [.srcAvail q.length], trace := s.trace ++ [⟨s.phase, .poll⟩] }) ∧
    (s.source = .free → exec .poll s =
      .next { s with
        draws := s.draws + 1, ret := .avail (Config.srcAvail s.draws)
        calls := s.calls ++ [.srcAvail (Config.srcAvail s.draws)]
        trace := s.trace ++ [⟨s.phase, .poll⟩] })

/-- R135, R35: READ4 returns 0 to 4 bytes in arrival order, and the source loses exactly those. Model's own
fields (log entries): `source` 2, `draws` 1, `ret` 5, `calls` 6, `trace` 7. -/
def Obligations.ReadTakesAtMostFourBytes : Prop :=
  ∀ s : State,
    (∀ q, s.source = .queue q → exec .read4 s =
      .next { s with
        source := .queue (q.drop 4), draws := s.draws + 1, ret := .bytes (q.take 4)
        calls := s.calls ++ [.srcRead 4 (q.take 4)], trace := s.trace ++ [⟨s.phase, .read4⟩] }) ∧
    (s.source = .free → exec .read4 s =
      .next { s with
        draws := s.draws + 1, ret := .bytes ((Config.srcBytes s.draws).take 4)
        calls := s.calls ++ [.srcRead 4 ((Config.srcBytes s.draws).take 4)]
        trace := s.trace ++ [⟨s.phase, .read4⟩] })

/-- R139: PUBLISH is one call to the display, carrying all its operands. Model's own fields (log entries): `ret`
5, `calls` 6, `trace` 7. -/
def Obligations.PublishIsOneCall : Prop :=
  ∀ (s : State) (ra rb : U16) (a b : List U16) (r : CorrResult), exec (.publish ra rb a b r) s =
    .next { s with
      ret := .nothing, calls := s.calls ++ [.publish ⟨ra, rb, a, b, r⟩]
      trace := s.trace ++ [⟨s.phase, .publish⟩] }

/-- R140, R141: REPORT is one call to the console/log, RESCHED one request of 100 ms to the Scheduler. Model's
own fields (log entries): `ret` 5, `calls` 6, `trace` 7. -/
def Obligations.ReportAndRescheduleAreOneCall : Prop :=
  ∀ s : State,
    (∀ k, exec (.report k) s = .next { s with
      ret := .nothing, calls := s.calls ++ [.report k], trace := s.trace ++ [⟨s.phase, .report⟩] }) ∧
    (exec .resched s = .next { s with
      ret := .nothing, calls := s.calls ++ [.resched 100], trace := s.trace ++ [⟨s.phase, .resched⟩] })

/-! ## The tick, one statement per outcome of R146 -/

/-- R156: fewer than 4 bytes available. Nothing is read, whatever `rd` is, and nothing but `PHASE` changes.
`source` and `draws` stay as they are (the answer is the operand, log entry 18). Model's own fields (log entries):
`ret` 5, `calls` 6, `trace` 7. -/
def Obligations.TickWithoutDataSkips : Prop :=
  ∀ (s : State) (avail : Nat) (rd : List Byte), avail < 4 → exec (.tick avail rd) s =
    .next { s with
      phase := .waiting, ret := .outcome .sourceNotReady
      calls := s.calls ++ [.srcAvail avail, .report .sourceNotReady, .resched 100]
      trace := s.trace ++ [⟨s.phase, .tick⟩, ⟨.waiting, .poll⟩, ⟨.waiting, .report⟩, ⟨.waiting, .resched⟩] }

/-- R157: fewer than 4 bytes returned. They are dropped, and nothing but `PHASE` changes. That `source` and
`draws` stay as they are is the model's choice: the bytes read are the operand (log entry 18). Model's own fields
(log entries): `ret` 5, `calls` 6, `trace` 7. -/
def Obligations.TickWithShortReadSkips : Prop :=
  ∀ (s : State) (avail : Nat) (rd : List Byte), 4 ≤ avail → rd.length < 4 → exec (.tick avail rd) s =
    .next { s with
      phase := .waiting, ret := .outcome .shortRead
      calls := s.calls ++ [.srcAvail avail, .srcRead 4 rd, .report .shortRead, .resched 100]
      trace := s.trace ++ [⟨s.phase, .tick⟩, ⟨.waiting, .poll⟩, ⟨.waiting, .read4⟩, ⟨.waiting, .report⟩,
        ⟨.waiting, .resched⟩] }

/-- R160: a value above 6000 on a channel whose series is empty. `FAULT[0]` is set and nothing is pushed on either
channel. That `source` and `draws` stay as they are is the model's choice: the bytes read are the operand (log
entry 18). Model's own fields (log entries): `ret` 5, `calls` 6, `trace` 7. -/
def Obligations.TickWithoutPreviousRaises : Prop :=
  ∀ (s : State) (avail : Nat) (rd : List Byte) (a b : U16), 4 ≤ avail → decodeFrame rd = some (a, b) →
    ((6000 < a.toNat ∧ s.sa = []) ∨ (6000 < b.toNat ∧ s.sb = [])) → exec (.tick avail rd) s =
    .next { s with
      phase := .waiting, fault := s.fault ||| 0b001, ret := .outcome .prevUndefined
      calls := s.calls ++ [.srcAvail avail, .srcRead 4 rd, .report .prevUndefined, .resched 100]
      trace := s.trace ++ [⟨s.phase, .tick⟩, ⟨.waiting, .poll⟩, ⟨.waiting, .read4⟩, ⟨.decoding, .decode⟩,
        ⟨.filtering, .last⟩, ⟨.filtering, .last⟩, ⟨.filtering, .report⟩, ⟨.filtering, .resched⟩] }

/-- R104, R144: the tick that finds `COUNT = 1000` empties both series, drops its values and does not publish.
That `source` and `draws` stay as they are is the model's choice: the bytes read are the operand (log entry 18).
Model's own fields (log entries): `ret` 5, `calls` 6, `trace` 7. -/
def Obligations.TickAtCapacityClears : Prop :=
  ∀ (s : State) (avail : Nat) (rd : List Byte) (a b : U16), 4 ≤ avail → decodeFrame rd = some (a, b) →
    (a.toNat ≤ 6000 ∨ s.sa ≠ []) → (b.toNat ≤ 6000 ∨ s.sb ≠ []) → s.count.val = 1000 →
    exec (.tick avail rd) s =
    .next { s with
      sa := [], sb := [], count := 0, phase := .waiting, ret := .outcome .cleared
      calls := s.calls ++ [.srcAvail avail, .srcRead 4 rd, .resched 100]
      trace := s.trace ++ [⟨s.phase, .tick⟩, ⟨.waiting, .poll⟩, ⟨.waiting, .read4⟩, ⟨.decoding, .decode⟩,
        ⟨.filtering, .last⟩, ⟨.filtering, .last⟩, ⟨.filtering, .filter⟩, ⟨.filtering, .filter⟩,
        ⟨.buffering, .append⟩, ⟨.rendering, .snapshot⟩, ⟨.rendering, .resched⟩] }

/-- R111, R144: the first push after a wrap-clear makes series of length 1 and does not publish. That `source` and
`draws` stay as they are is the model's choice: the bytes read are the operand (log entry 18). Model's own fields
(log entries): `ret` 5, `calls` 6, `trace` 7. -/
def Obligations.TickAfterClearAppends : Prop :=
  ∀ (s : State) (avail : Nat) (rd : List Byte) (a b : U16) (h : s.count.val < 1000),
    4 ≤ avail → decodeFrame rd = some (a, b) → a.toNat ≤ 6000 → b.toNat ≤ 6000 → s.sa = [] → s.sb = [] →
    exec (.tick avail rd) s =
    .next { s with
      sa := [a], sb := [b], count := ⟨s.count.val + 1, Nat.succ_lt_succ h⟩
      phase := .waiting, ret := .outcome .appended
      calls := s.calls ++ [.srcAvail avail, .srcRead 4 rd, .resched 100]
      trace := s.trace ++ [⟨s.phase, .tick⟩, ⟨.waiting, .poll⟩, ⟨.waiting, .read4⟩, ⟨.decoding, .decode⟩,
        ⟨.filtering, .last⟩, ⟨.filtering, .last⟩, ⟨.filtering, .filter⟩, ⟨.filtering, .filter⟩,
        ⟨.buffering, .append⟩, ⟨.rendering, .snapshot⟩, ⟨.rendering, .resched⟩] }

/-- R94, R103, R138, R139, R144: with series of one positive length below capacity, the tick pushes each value,
clamped to its own channel's last element, correlates the full new series and publishes them. That `source` and
`draws` stay as they are is the model's choice: the bytes read are the operand (log entry 18). Model's own fields
(log entries): `ret` 5, `calls` 6, `trace` 7. -/
def Obligations.TickPushesAndPublishes : Prop :=
  ∀ (s : State) (avail : Nat) (rd : List Byte) (a b pa pb fa fb : U16) (h : s.count.val < 1000),
    4 ≤ avail → decodeFrame rd = some (a, b) →
    s.sa.length = s.sb.length → s.sa.getLast? = some pa → s.sb.getLast? = some pb →
    fa = (if a.toNat ≤ 6000 then a else pa) → fb = (if b.toNat ≤ 6000 then b else pb) →
    ∃ r : CorrResult, xcorr (s.sa ++ [fa]) (s.sb ++ [fb]) = some r ∧
    exec (.tick avail rd) s =
    .next { s with
      sa := s.sa ++ [fa], sb := s.sb ++ [fb], count := ⟨s.count.val + 1, Nat.succ_lt_succ h⟩
      phase := .waiting, ret := .outcome .published
      calls := s.calls ++ [.srcAvail avail, .srcRead 4 rd,
        .publish ⟨fa, fb, s.sa ++ [fa], s.sb ++ [fb], r⟩, .resched 100]
      trace := s.trace ++ [⟨s.phase, .tick⟩, ⟨.waiting, .poll⟩, ⟨.waiting, .read4⟩, ⟨.decoding, .decode⟩,
        ⟨.filtering, .last⟩, ⟨.filtering, .last⟩, ⟨.filtering, .filter⟩, ⟨.filtering, .filter⟩,
        ⟨.buffering, .append⟩, ⟨.rendering, .snapshot⟩, ⟨.rendering, .xcorr⟩, ⟨.rendering, .publish⟩,
        ⟨.rendering, .resched⟩] }

/-- R79: a FRAME is the tick whose source announces 4 bytes and answers `ENCODE(a, b)`. -/
def Obligations.FrameIsTickOnItsBytes : Prop :=
  ∀ (s : State) (a b : U16), exec (.frame a b) s = exec (.tick 4 (encodeFrame a b)) s

/-- R79, R144: a FRAME in range, met below capacity by series of equal length, completes: both values are pushed
as they are, one is counted, and the tick ends `Published`, or `Appended` where the series were empty. That
`source` and `draws` stay as they are is the model's choice: the bytes read are the operand (log entry 18).
Model's own fields (log entries): `source` 2, `draws` 1, `cmds` 3, `ret` 5. -/
def Obligations.FrameInRangeIsPushed : Prop :=
  ∀ (s : State) (a b : U16), a.toNat ≤ 6000 → b.toNat ≤ 6000 → s.count.val < 1000 →
    s.sa.length = s.sb.length →
    ∃ t, exec (.frame a b) s = .next t ∧
      t.sa = s.sa ++ [a] ∧ t.sb = s.sb ++ [b] ∧ t.count.val = s.count.val + 1 ∧
      t.phase = .waiting ∧ t.fault = s.fault ∧ t.source = s.source ∧ t.draws = s.draws ∧ t.cmds = s.cmds ∧
      t.ret = .outcome (if s.sa = [] then .appended else .published)

/-! ## Whole-machine rules -/

/-- R147: a TICK or FRAME sets neither `FAULT[1]` nor `FAULT[2]` and ends in neither error kind of theirs.
Model's own fields (log entries): `ret` 5. -/
def Obligations.TickNeverMisusesItsParts : Prop :=
  ∀ (s t : State) (i : Instr), ((∃ avail rd, i = .tick avail rd) ∨ (∃ a b, i = .frame a b)) →
    exec i s = .next t →
    t.fault &&& 0b110#3 = s.fault &&& 0b110#3 ∧
    t.ret ≠ .outcome .engineMisuse ∧ t.ret ≠ .outcome .incompleteFrame ∧ (∃ o, t.ret = .outcome o)

/-- R141, R148: every TICK that can be presented, on series of equal length, completes; it makes exactly one
`Resched(100)`, as its last call, and is back in `Waiting`. Model's own fields (log entries): `calls` 6. -/
def Obligations.EveryTickReschedulesLast : Prop :=
  ∀ (s : State) (avail : Nat) (rd : List Byte), rd.length ≤ 4 → s.sa.length = s.sb.length →
    ∃ (t : State) (before : List Call), exec (.tick avail rd) s = .next t ∧
      t.calls = s.calls ++ before ++ [.resched 100] ∧ (∀ c ∈ before, ∀ ms, c ≠ .resched ms) ∧
      t.phase = .waiting

/-- R168: a TICK or FRAME that ends in an error kind leaves `SA`, `SB` and `COUNT`; it sets `FAULT[0]` for
`PrevUndefined` and no bit for the others. Model's own fields (log entries): `ret` 5. -/
def Obligations.ErrorKindsArePrecise : Prop :=
  ∀ (s t : State) (i : Instr) (k : ErrorKind),
    ((∃ avail rd, i = .tick avail rd) ∨ (∃ a b, i = .frame a b)) →
    exec i s = .next t → t.ret = .outcome (outcomeOf k) →
    t.sa = s.sa ∧ t.sb = s.sb ∧ t.count = s.count ∧ t.phase = .waiting ∧
    t.fault = (if k = .prevUndefined then s.fault ||| 0b001 else s.fault)

/-- R195, R159: an instruction that changes what the display shows is a TICK or FRAME that ends `Published`. Any
other instruction, and any other ending, leaves it as it was; PUBLISH taken alone is the call itself (`PublishIsOneCall`) and is
the one instruction not spoken of. Model's own fields (log entries): `ret` 5, `calls` 6. -/
def Obligations.DisplayChangesOnlyWhenPublished : Prop :=
  ∀ (s t : State) (i : Instr), (∀ ra rb a b r, i ≠ .publish ra rb a b r) → exec i s = .next t →
    lastPublish t.calls = lastPublish s.calls ∨
    (((∃ avail rd, i = .tick avail rd) ∨ (∃ a b, i = .frame a b)) ∧ t.ret = .outcome .published)

/-- R185, R26: where the series are not empty, no TICK or FRAME records a fault. -/
def Obligations.SeededSeriesNeverFault : Prop :=
  ∀ (s t : State) (i : Instr), ((∃ avail rd, i = .tick avail rd) ∨ (∃ a b, i = .frame a b)) →
    s.sa ≠ [] → s.sb ≠ [] → exec i s = .next t → NoFault s → NoFault t

/-- R25: no rule reads `PHASE`: from any state, whatever its record, a TICK or FRAME ends alike from any two phases,
but for the phase that the observer's record gives the tick's own entry. Model's own fields (log entries):
`trace` 7. -/
def Obligations.PhaseIsNotRead : Prop :=
  ∀ (s t : State) (p q : Phase) (i : Instr), ((∃ avail rd, i = .tick avail rd) ∨ (∃ a b, i = .frame a b)) →
    exec i { s with phase := p } = .next t →
    ∃ rest : List TraceEntry, t.trace = s.trace ++ ⟨p, .tick⟩ :: rest ∧
      exec i { s with phase := q } = .next { t with trace := s.trace ++ ⟨q, .tick⟩ :: rest }

/-- R94. What a tick below capacity pushes on a channel is that channel's new value, or, where the value is out of
range, that channel's own last element before the append. What is left of channel A depends on nothing of
channel B, and the reverse: the raw value of the other channel and its series may be any. A raw value that was
rejected leaves no trace: any other rejected value in its place gives the same state and the same display, and
differs in the recorded answer of the source alone. Model's own fields (log entries): `ret` 5, `calls` 6. -/
def Obligations.ChannelAIgnoresChannelB : Prop :=
  (∀ (s t : State) (i : Instr) (a b : U16), TakesFrame i a b → exec i s = .next t →
    t.ret ≠ .outcome .prevUndefined → s.count.val < 1000 →
    ∃ fa fb : U16, t.sa = s.sa ++ [fa] ∧ t.sb = s.sb ++ [fb] ∧
      (if a.toNat ≤ 6000 then fa = a else s.sa.getLast? = some fa) ∧
      (if b.toNat ≤ 6000 then fb = b else s.sb.getLast? = some fb)) ∧
  (∀ (s1 s2 t1 t2 : State) (i1 i2 : Instr) (a b1 b2 : U16), TakesFrame i1 a b1 → TakesFrame i2 a b2 →
    s1.sa = s2.sa → s1.count = s2.count → exec i1 s1 = .next t1 → exec i2 s2 = .next t2 →
    t1.ret ≠ .outcome .prevUndefined → t2.ret ≠ .outcome .prevUndefined →
    t1.sa = t2.sa ∧ t1.count = t2.count) ∧
  (∀ (s1 s2 t1 t2 : State) (i1 i2 : Instr) (a1 a2 b : U16), TakesFrame i1 a1 b → TakesFrame i2 a2 b →
    s1.sb = s2.sb → s1.count = s2.count → exec i1 s1 = .next t1 → exec i2 s2 = .next t2 →
    t1.ret ≠ .outcome .prevUndefined → t2.ret ≠ .outcome .prevUndefined →
    t1.sb = t2.sb ∧ t1.count = t2.count) ∧
  (∀ (s t1 t2 : State) (i1 i2 : Instr) (a1 a2 b1 b2 : U16), TakesFrame i1 a1 b1 → TakesFrame i2 a2 b2 →
    (a1 = a2 ∨ (6000 < a1.toNat ∧ 6000 < a2.toNat)) → (b1 = b2 ∨ (6000 < b1.toNat ∧ 6000 < b2.toNat)) →
    exec i1 s = .next t1 → exec i2 s = .next t2 →
    t2 = { t1 with calls := t2.calls } ∧ lastPublish t2.calls = lastPublish t1.calls)

/-- R42, R108: the access table. Nothing but RESET, APPEND, TICK and FRAME changes the series or `COUNT`; nothing
but RESET, TICK and FRAME changes `PHASE`; nothing but those and DECODE, FILTER, XCORR changes `FAULT`; nothing
but READ4 changes the source. That a TICK or FRAME which reads leaves `source` as it is, where R42 and R168 (c)
have the source lose the bytes, is the model's choice: the bytes read are the operand, and a step that draws a
tick from `source` takes them from it (log entry 18; `StepRunsOwnTick`, `QueueIsReadFourAtATime`). Model's own
fields (log entries): `source` 2, `cmds` 3. -/
def Obligations.OnlyTheListedOperationsWrite : Prop :=
  ∀ (s t : State) (i : Instr), exec i s = .next t →
    ((i ≠ .reset ∧ (∀ n rd, i ≠ .tick n rd) ∧ (∀ a b, i ≠ .frame a b) ∧ (∀ a b, i ≠ .append a b)) →
      t.sa = s.sa ∧ t.sb = s.sb ∧ t.count = s.count) ∧
    ((i ≠ .reset ∧ (∀ n rd, i ≠ .tick n rd) ∧ (∀ a b, i ≠ .frame a b)) → t.phase = s.phase) ∧
    ((i ≠ .reset ∧ (∀ n rd, i ≠ .tick n rd) ∧ (∀ a b, i ≠ .frame a b) ∧ (∀ l, i ≠ .decode l) ∧
      (∀ v p, i ≠ .filter v p) ∧ (∀ x y, i ≠ .xcorr x y)) → t.fault = s.fault) ∧
    (i ≠ .read4 → t.source = s.source) ∧
    t.cmds = s.cmds

/-- R26: a `FAULT` bit, once set, is cleared by RESET alone. -/
def Obligations.FaultBitsAreSticky : Prop :=
  ∀ (s t : State) (i : Instr), exec i s = .next t → i ≠ .reset → s.fault &&& t.fault = s.fault

/-- R24, R27 I4: `SEEDED` never rises but by RESET: once a wrap-clear has dropped the seed, `LEN = COUNT`. -/
def Obligations.SeedReturnsOnlyByReset : Prop :=
  ∀ (s t : State) (i : Instr), Sound s → exec i s = .next t → i ≠ .reset →
    t.seeded ≤ s.seeded ∧ (t.seeded = 0 ∨ t.seeded = 1)

/-- R148: on a sound state every instruction that can be presented completes. -/
def Obligations.EveryPresentableInstructionCompletes : Prop :=
  ∀ (s : State) (i : Instr), Sound s → i.WellFormed → ∃ t, exec i s = .next t

/-- R148: left to itself the block never stops: on a sound state with nothing presented, the step answers a next
state, in which again nothing is presented (and which is sound, by `StepKeepsSound`). Model's own fields (log
entries): `cmds` 3. -/
def Obligations.LoopNeverStops : Prop :=
  ∀ s : State, Sound s → s.cmds = [] → ∃ t, step s = .next t ∧ t.cmds = []

/-- R13, R24, R27 I2 and I4: on a sound state `LEN` is at most 1001, and the 10-bit registers `COUNT` and `LEN` hold
their values exactly. -/
def Obligations.CounterWidthsHoldEveryValue : Prop :=
  ∀ s : State, Sound s →
    s.len ≤ 1001 ∧ s.countReg.toNat = s.count.val ∧ s.lenReg.toNat = s.len ∧ s.sb.length = s.len

/-- R64, R55, decision D2: over a byte queue, the block's own tick leaves fewer than 4 bytes where they are, and
else takes exactly 4; it never ends `ShortRead`. Model's own fields (log entries): `source` 2, `cmds` 3, `ret`
5. -/
def Obligations.QueueIsReadFourAtATime : Prop :=
  ∀ (s t : State) (q : List Byte), s.cmds = [] → s.source = .queue q → step s = .next t →
    (q.length < 4 → t.source = .queue q ∧ t.ret = .outcome .sourceNotReady) ∧
    (4 ≤ q.length → t.source = .queue (q.drop 4) ∧ t.ret ≠ .outcome .sourceNotReady) ∧
    t.ret ≠ .outcome .shortRead

/-- R27 I1 to I4, R25: from every sound state a step, whatever is presented, leads to a sound state. -/
def Obligations.StepKeepsSound : Prop :=
  ∀ s t : State, Sound s → step s = .next t → Sound t

/-- R39, R27: what `Sound` asks holds after construction reset: series of one length, `LEN` equal to `COUNT` or
one more, `PHASE` idle or waiting. The exact values are `ResetStateValues`. -/
def Obligations.ResetIsSound : Prop := Sound State.reset

/-- R27: from every state that meets I1 to I6 with only stimulus lines waiting, a step leads to one that does:
every element stays at most 6000 (R97) and `FAULT[1]`, `FAULT[2]` stay 0 (R147). -/
def Obligations.StepKeepsReachable : Prop :=
  ∀ s t : State, Reachable s → step s = .next t → Reachable t

/-- R39: the state after construction reset meets I1 to I6. -/
def Obligations.ResetIsReachable : Prop := Reachable State.reset
end

