-- ==== Sys2Proof/Laws/State.lean ====
section
/-! SUPPORT. One lemma per field per update of the state, each true by unfolding, so that no later proof
unfolds a record update. -/

namespace Sys2Proof.Machine

/-! ## State.perform -/

@[simp] theorem State.perform_sa (op : Opc) (s : State) : (s.perform op).sa = s.sa := rfl
@[simp] theorem State.perform_sb (op : Opc) (s : State) : (s.perform op).sb = s.sb := rfl
@[simp] theorem State.perform_count (op : Opc) (s : State) : (s.perform op).count = s.count := rfl
@[simp] theorem State.perform_phase (op : Opc) (s : State) : (s.perform op).phase = s.phase := rfl
@[simp] theorem State.perform_fault (op : Opc) (s : State) : (s.perform op).fault = s.fault := rfl
@[simp] theorem State.perform_source (op : Opc) (s : State) : (s.perform op).source = s.source := rfl
@[simp] theorem State.perform_draws (op : Opc) (s : State) : (s.perform op).draws = s.draws := rfl
@[simp] theorem State.perform_cmds (op : Opc) (s : State) : (s.perform op).cmds = s.cmds := rfl
@[simp] theorem State.perform_calls (op : Opc) (s : State) : (s.perform op).calls = s.calls := rfl
@[simp] theorem State.perform_trace (op : Opc) (s : State) : (s.perform op).trace = s.trace ++ [⟨s.phase, op⟩] := rfl
@[simp] theorem State.perform_ret (op : Opc) (s : State) : (s.perform op).ret = s.ret := rfl

/-! ## State.call -/

@[simp] theorem State.call_sa (c : Call) (s : State) : (s.call c).sa = s.sa := rfl
@[simp] theorem State.call_sb (c : Call) (s : State) : (s.call c).sb = s.sb := rfl
@[simp] theorem State.call_count (c : Call) (s : State) : (s.call c).count = s.count := rfl
@[simp] theorem State.call_phase (c : Call) (s : State) : (s.call c).phase = s.phase := rfl
@[simp] theorem State.call_fault (c : Call) (s : State) : (s.call c).fault = s.fault := rfl
@[simp] theorem State.call_source (c : Call) (s : State) : (s.call c).source = s.source := rfl
@[simp] theorem State.call_draws (c : Call) (s : State) : (s.call c).draws = s.draws := rfl
@[simp] theorem State.call_cmds (c : Call) (s : State) : (s.call c).cmds = s.cmds := rfl
@[simp] theorem State.call_calls (c : Call) (s : State) : (s.call c).calls = s.calls ++ [c] := rfl
@[simp] theorem State.call_trace (c : Call) (s : State) : (s.call c).trace = s.trace := rfl
@[simp] theorem State.call_ret (c : Call) (s : State) : (s.call c).ret = s.ret := rfl

/-! ## State.answer -/

@[simp] theorem State.answer_sa (r : Result) (s : State) : (s.answer r).sa = s.sa := rfl
@[simp] theorem State.answer_sb (r : Result) (s : State) : (s.answer r).sb = s.sb := rfl
@[simp] theorem State.answer_count (r : Result) (s : State) : (s.answer r).count = s.count := rfl
@[simp] theorem State.answer_phase (r : Result) (s : State) : (s.answer r).phase = s.phase := rfl
@[simp] theorem State.answer_fault (r : Result) (s : State) : (s.answer r).fault = s.fault := rfl
@[simp] theorem State.answer_source (r : Result) (s : State) : (s.answer r).source = s.source := rfl
@[simp] theorem State.answer_draws (r : Result) (s : State) : (s.answer r).draws = s.draws := rfl
@[simp] theorem State.answer_cmds (r : Result) (s : State) : (s.answer r).cmds = s.cmds := rfl
@[simp] theorem State.answer_calls (r : Result) (s : State) : (s.answer r).calls = s.calls := rfl
@[simp] theorem State.answer_trace (r : Result) (s : State) : (s.answer r).trace = s.trace := rfl
@[simp] theorem State.answer_ret (r : Result) (s : State) : (s.answer r).ret = r := rfl

/-! ## State.setPhase -/

@[simp] theorem State.setPhase_sa (p : Phase) (s : State) : (s.setPhase p).sa = s.sa := rfl
@[simp] theorem State.setPhase_sb (p : Phase) (s : State) : (s.setPhase p).sb = s.sb := rfl
@[simp] theorem State.setPhase_count (p : Phase) (s : State) : (s.setPhase p).count = s.count := rfl
@[simp] theorem State.setPhase_phase (p : Phase) (s : State) : (s.setPhase p).phase = p := rfl
@[simp] theorem State.setPhase_fault (p : Phase) (s : State) : (s.setPhase p).fault = s.fault := rfl
@[simp] theorem State.setPhase_source (p : Phase) (s : State) : (s.setPhase p).source = s.source := rfl
@[simp] theorem State.setPhase_draws (p : Phase) (s : State) : (s.setPhase p).draws = s.draws := rfl
@[simp] theorem State.setPhase_cmds (p : Phase) (s : State) : (s.setPhase p).cmds = s.cmds := rfl
@[simp] theorem State.setPhase_calls (p : Phase) (s : State) : (s.setPhase p).calls = s.calls := rfl
@[simp] theorem State.setPhase_trace (p : Phase) (s : State) : (s.setPhase p).trace = s.trace := rfl
@[simp] theorem State.setPhase_ret (p : Phase) (s : State) : (s.setPhase p).ret = s.ret := rfl

/-! ## State.raise -/

@[simp] theorem State.raise_sa (k : ErrorKind) (s : State) : (s.raise k).sa = s.sa := rfl
@[simp] theorem State.raise_sb (k : ErrorKind) (s : State) : (s.raise k).sb = s.sb := rfl
@[simp] theorem State.raise_count (k : ErrorKind) (s : State) : (s.raise k).count = s.count := rfl
@[simp] theorem State.raise_phase (k : ErrorKind) (s : State) : (s.raise k).phase = s.phase := rfl
@[simp] theorem State.raise_fault (k : ErrorKind) (s : State) : (s.raise k).fault = s.fault ||| faultMask k := rfl
@[simp] theorem State.raise_source (k : ErrorKind) (s : State) : (s.raise k).source = s.source := rfl
@[simp] theorem State.raise_draws (k : ErrorKind) (s : State) : (s.raise k).draws = s.draws := rfl
@[simp] theorem State.raise_cmds (k : ErrorKind) (s : State) : (s.raise k).cmds = s.cmds := rfl
@[simp] theorem State.raise_calls (k : ErrorKind) (s : State) : (s.raise k).calls = s.calls := rfl
@[simp] theorem State.raise_trace (k : ErrorKind) (s : State) : (s.raise k).trace = s.trace := rfl
@[simp] theorem State.raise_ret (k : ErrorKind) (s : State) : (s.raise k).ret = s.ret := rfl

/-! ## State.drawn -/

@[simp] theorem State.drawn_sa (s : State) : s.drawn.sa = s.sa := rfl
@[simp] theorem State.drawn_sb (s : State) : s.drawn.sb = s.sb := rfl
@[simp] theorem State.drawn_count (s : State) : s.drawn.count = s.count := rfl
@[simp] theorem State.drawn_phase (s : State) : s.drawn.phase = s.phase := rfl
@[simp] theorem State.drawn_fault (s : State) : s.drawn.fault = s.fault := rfl
@[simp] theorem State.drawn_source (s : State) : s.drawn.source = s.source := rfl
@[simp] theorem State.drawn_draws (s : State) : s.drawn.draws = s.draws + 1 := rfl
@[simp] theorem State.drawn_cmds (s : State) : s.drawn.cmds = s.cmds := rfl
@[simp] theorem State.drawn_calls (s : State) : s.drawn.calls = s.calls := rfl
@[simp] theorem State.drawn_trace (s : State) : s.drawn.trace = s.trace := rfl
@[simp] theorem State.drawn_ret (s : State) : s.drawn.ret = s.ret := rfl

/-! ## State.consumed -/

@[simp] theorem State.consumed_sa (s : State) : s.consumed.sa = s.sa := rfl
@[simp] theorem State.consumed_sb (s : State) : s.consumed.sb = s.sb := rfl
@[simp] theorem State.consumed_count (s : State) : s.consumed.count = s.count := rfl
@[simp] theorem State.consumed_phase (s : State) : s.consumed.phase = s.phase := rfl
@[simp] theorem State.consumed_fault (s : State) : s.consumed.fault = s.fault := rfl
@[simp] theorem State.consumed_source (s : State) : s.consumed.source = srcRemainder s.source := rfl
@[simp] theorem State.consumed_draws (s : State) : s.consumed.draws = s.draws := rfl
@[simp] theorem State.consumed_cmds (s : State) : s.consumed.cmds = s.cmds := rfl
@[simp] theorem State.consumed_calls (s : State) : s.consumed.calls = s.calls := rfl
@[simp] theorem State.consumed_trace (s : State) : s.consumed.trace = s.trace := rfl
@[simp] theorem State.consumed_ret (s : State) : s.consumed.ret = s.ret := rfl

/-! ## pushBoth -/

@[simp] theorem pushBoth_sa (fa fb : U16) (c : Fin 1001) (s : State) : (pushBoth fa fb c s).sa = s.sa ++ [fa] := rfl
@[simp] theorem pushBoth_sb (fa fb : U16) (c : Fin 1001) (s : State) : (pushBoth fa fb c s).sb = s.sb ++ [fb] := rfl
@[simp] theorem pushBoth_count (fa fb : U16) (c : Fin 1001) (s : State) : (pushBoth fa fb c s).count = c := rfl
@[simp] theorem pushBoth_phase (fa fb : U16) (c : Fin 1001) (s : State) : (pushBoth fa fb c s).phase = s.phase := rfl
@[simp] theorem pushBoth_fault (fa fb : U16) (c : Fin 1001) (s : State) : (pushBoth fa fb c s).fault = s.fault := rfl
@[simp] theorem pushBoth_source (fa fb : U16) (c : Fin 1001) (s : State) : (pushBoth fa fb c s).source = s.source := rfl
@[simp] theorem pushBoth_draws (fa fb : U16) (c : Fin 1001) (s : State) : (pushBoth fa fb c s).draws = s.draws := rfl
@[simp] theorem pushBoth_cmds (fa fb : U16) (c : Fin 1001) (s : State) : (pushBoth fa fb c s).cmds = s.cmds := rfl
@[simp] theorem pushBoth_calls (fa fb : U16) (c : Fin 1001) (s : State) : (pushBoth fa fb c s).calls = s.calls := rfl
@[simp] theorem pushBoth_trace (fa fb : U16) (c : Fin 1001) (s : State) : (pushBoth fa fb c s).trace = s.trace := rfl
@[simp] theorem pushBoth_ret (fa fb : U16) (c : Fin 1001) (s : State) : (pushBoth fa fb c s).ret = s.ret := rfl

/-! ## wrapClear -/

@[simp] theorem wrapClear_sa (s : State) : (wrapClear s).sa = [] := rfl
@[simp] theorem wrapClear_sb (s : State) : (wrapClear s).sb = [] := rfl
@[simp] theorem wrapClear_count (s : State) : (wrapClear s).count = 0 := rfl
@[simp] theorem wrapClear_phase (s : State) : (wrapClear s).phase = s.phase := rfl
@[simp] theorem wrapClear_fault (s : State) : (wrapClear s).fault = s.fault := rfl
@[simp] theorem wrapClear_source (s : State) : (wrapClear s).source = s.source := rfl
@[simp] theorem wrapClear_draws (s : State) : (wrapClear s).draws = s.draws := rfl
@[simp] theorem wrapClear_cmds (s : State) : (wrapClear s).cmds = s.cmds := rfl
@[simp] theorem wrapClear_calls (s : State) : (wrapClear s).calls = s.calls := rfl
@[simp] theorem wrapClear_trace (s : State) : (wrapClear s).trace = s.trace := rfl
@[simp] theorem wrapClear_ret (s : State) : (wrapClear s).ret = s.ret := rfl

/-! ## construct -/

@[simp] theorem construct_sa (s : State) : (construct s).sa = [params.seed] := rfl
@[simp] theorem construct_sb (s : State) : (construct s).sb = [params.seed] := rfl
@[simp] theorem construct_count (s : State) : (construct s).count = 0 := rfl
@[simp] theorem construct_phase (s : State) : (construct s).phase = .idle := rfl
@[simp] theorem construct_fault (s : State) : (construct s).fault = 0 := rfl
@[simp] theorem construct_source (s : State) : (construct s).source = s.source := rfl
@[simp] theorem construct_draws (s : State) : (construct s).draws = s.draws := rfl
@[simp] theorem construct_cmds (s : State) : (construct s).cmds = s.cmds := rfl
@[simp] theorem construct_calls (s : State) : (construct s).calls = s.calls := rfl
@[simp] theorem construct_trace (s : State) : (construct s).trace = s.trace := rfl
@[simp] theorem construct_ret (s : State) : (construct s).ret = s.ret := rfl

end Sys2Proof.Machine
end

