-- ==== Sys2Proof/Laws/Ops.lean ====
section
/-! SUPPORT. What each shared operation does, once: the parameters' values, the calls, the append, the
filter, the reads, and the end of a tick. -/

namespace Sys2Proof.Machine

/-! ## The parameters -/

@[simp] theorem params_frameBytes : params.frameBytes = 4 := rfl
@[simp] theorem params_threshold : params.threshold = 6000 := rfl
@[simp] theorem params_capacity : params.capacity = 1000 := rfl
@[simp] theorem params_seed : params.seed = 0#16 := rfl
@[simp] theorem params_nMin : params.nMin = 2 := rfl
@[simp] theorem params_tickDelayMs : params.tickDelayMs = 100 := rfl

/-- I2 of R27: `COUNT` is at most 1000, by its type. -/
theorem count_le (s : State) : s.count.val ≤ 1000 := Nat.le_of_lt_succ s.count.isLt

/-! ## The operations that call a collaborator -/

theorem pollOp_eq (n : Nat) (s : State) :
    pollOp n s = { s with trace := s.trace ++ [⟨s.phase, .poll⟩], calls := s.calls ++ [.srcAvail n] } := rfl

theorem read4Op_eq (rd : List Byte) (s : State) :
    read4Op rd s =
      { s with trace := s.trace ++ [⟨s.phase, .read4⟩], calls := s.calls ++ [.srcRead 4 rd] } := rfl

theorem publishOp_eq (p : Payload) (s : State) :
    publishOp p s =
      { s with trace := s.trace ++ [⟨s.phase, .publish⟩], calls := s.calls ++ [.publish p] } := rfl

theorem reportOp_eq (k : ErrorKind) (s : State) :
    reportOp k s =
      { s with trace := s.trace ++ [⟨s.phase, .report⟩], calls := s.calls ++ [.report k] } := rfl

theorem reschedOp_eq (s : State) :
    reschedOp s =
      { s with trace := s.trace ++ [⟨s.phase, .resched⟩], calls := s.calls ++ [.resched 100] } := rfl

/-! ## Error kinds and the end of a tick -/

theorem raiseAlone_eq (k : ErrorKind) (s : State) :
    raiseAlone k s = { s with fault := s.fault ||| faultMask k, ret := .raised k } := rfl

theorem finishTick_eq (o : TickOutcome) (s : State) :
    finishTick o s =
      { s with
        trace := s.trace ++ [⟨s.phase, .resched⟩], calls := s.calls ++ [.resched 100],
        phase := .waiting, ret := .outcome o } := rfl

theorem earlyOut_eq (k : ErrorKind) (s : State) :
    earlyOut k s =
      { s with
        fault := s.fault ||| faultMask k,
        trace := s.trace ++ [⟨s.phase, .report⟩, ⟨s.phase, .resched⟩],
        calls := s.calls ++ [.report k, .resched 100],
        phase := .waiting, ret := .outcome (outcomeOf k) } := by
  simp [earlyOut, finishTick_eq, reportOp_eq, State.raise]

/-! ## The series stores -/

/-- The append at capacity is a wrap-clear (R104). -/
theorem appendBoth_full (fa fb : U16) {s : State} (h : s.count.val = 1000) :
    appendBoth fa fb s = wrapClear s := dif_pos h

/-- The append below capacity is a push (R103). -/
theorem appendBoth_room (fa fb : U16) {s : State} (h : s.count.val < 1000) :
    appendBoth fa fb s = pushBoth fa fb ⟨s.count.val + 1, Nat.succ_lt_succ h⟩ s :=
  dif_neg (Nat.ne_of_lt h)

/-- All that an append can do: the push path, or the wrap-clear path. -/
theorem appendBoth_cases (fa fb : U16) (s : State) :
    (s.count.val = 1000 ∧ appendBoth fa fb s = wrapClear s) ∨
    (∃ h : s.count.val < 1000,
      appendBoth fa fb s = pushBoth fa fb ⟨s.count.val + 1, Nat.succ_lt_succ h⟩ s) := by
  rcases Nat.lt_or_eq_of_le (count_le s) with h | h
  · exact .inr ⟨h, appendBoth_room fa fb h⟩
  · exact .inl ⟨h, appendBoth_full fa fb h⟩

/-! ## The filter and the reads -/

theorem filterValue_of_le {v : U16} (h : v.toNat ≤ 6000) (p : Option U16) : filterValue v p = some v :=
  if_pos h

theorem filterValue_of_gt {v : U16} (h : 6000 < v.toNat) (p : Option U16) : filterValue v p = p :=
  if_neg (Nat.not_le.2 h)

/-- Where the filter returns a value, it is the value offered, in range, or the previous one. -/
theorem filterValue_cases {v f : U16} {p : Option U16} (h : filterValue v p = some f) :
    (v.toNat ≤ 6000 ∧ f = v) ∨ (6000 < v.toNat ∧ p = some f) := by
  by_cases hv : v.toNat ≤ 6000
  · rw [filterValue_of_le hv] at h
    exact .inl ⟨hv, (Option.some.inj h).symm⟩
  · rw [filterValue_of_gt (Nat.not_le.1 hv)] at h
    exact .inr ⟨Nat.not_le.1 hv, h⟩

/-- Where the filter returns none, the value is out of range and there is no previous one. -/
theorem filterValue_none {v : U16} {p : Option U16} (h : filterValue v p = none) :
    6000 < v.toNat ∧ p = none := by
  by_cases hv : v.toNat ≤ 6000
  · rw [filterValue_of_le hv] at h; cases h
  · rw [filterValue_of_gt (Nat.not_le.1 hv)] at h
    exact ⟨Nat.not_le.1 hv, h⟩

@[simp] theorem lastOf_A (s : State) : lastOf .A s = s.sa.getLast? := rfl
@[simp] theorem lastOf_B (s : State) : lastOf .B s = s.sb.getLast? := rfl

/-- What the source answers is at most 4 bytes (R35). -/
theorem srcBytes_length_le (s : State) : (srcBytes s).length ≤ 4 := by
  unfold srcBytes
  split <;> simp

end Sys2Proof.Machine
end

