-- ==== Sys2Proof/Laws/Decode.lean ====
section
/-! SUPPORT. The decoder's small lemmas: which byte sequences are a frame, and which codes an operation. -/

namespace Sys2Proof

/-- Exactly the sequences of 4 bytes decode (R69, R89, R91). -/
theorem decodeFrame_isSome (l : List Byte) : (decodeFrame l).isSome = true ↔ l.length = 4 := by
  unfold decodeFrame
  split
  · simp
  · rename_i h
    constructor
    · intro e; simp at e
    · intro e
      match l, e with
      | [b0, b1, b2, b3], _ => exact absurd rfl (h b0 b1 b2 b3)

theorem decodeFrame_length {l : List Byte} {p : U16 × U16} (h : decodeFrame l = some p) : l.length = 4 :=
  (decodeFrame_isSome l).1 (by simp [h])

theorem decodeFrame_none {l : List Byte} (h : decodeFrame l = none) : l.length ≠ 4 := by
  intro e
  have := (decodeFrame_isSome l).2 e
  simp [h] at this

theorem encodeFrame_length (a b : U16) : (encodeFrame a b).length = 4 := rfl

/-- The decoder reads every code of R70 as the operation of that code. -/
theorem opcOf_code (o : Opc) : opcOf o.code = some o := by cases o <;> rfl

end Sys2Proof
end

