-- ==== Sys2Proof/Laws/PerInstr.lean ====
section
/-! SUPPORT. One lemma per instruction: the code the encoder gives is one the hardware has, that is a frame of
exactly 4 bytes (spec/30_encoding.md R77) or an operation code that is not reserved (R76). -/

namespace Sys2Proof.Laws

/-- The code of the instruction is one the hardware has (R76, R77). -/
def LegalCode.Statement (i : Instr) : Prop :=
  match encode i with
  | .frame bytes => bytes.length = 4
  | .op w => w.opc.toNat < 13

theorem LegalCode.frame (a b : U16) : LegalCode.Statement (.frame a b) := rfl
theorem LegalCode.reset : LegalCode.Statement .reset := show (0x0#4).toNat < 13 by decide
theorem LegalCode.tick (avail : Nat) (rd : List Byte) : LegalCode.Statement (.tick avail rd) :=
  show (0x1#4).toNat < 13 by decide
theorem LegalCode.poll : LegalCode.Statement .poll := show (0x2#4).toNat < 13 by decide
theorem LegalCode.read4 : LegalCode.Statement .read4 := show (0x3#4).toNat < 13 by decide
theorem LegalCode.decode (buf : List Byte) : LegalCode.Statement (.decode buf) :=
  show (0x4#4).toNat < 13 by decide
theorem LegalCode.filter (v : U16) (prev : Option U16) : LegalCode.Statement (.filter v prev) :=
  show (0x5#4).toNat < 13 by decide
theorem LegalCode.append (fa fb : U16) : LegalCode.Statement (.append fa fb) :=
  show (0x6#4).toNat < 13 by decide
theorem LegalCode.last (ch : Channel) : LegalCode.Statement (.last ch) := show (0x7#4).toNat < 13 by decide
theorem LegalCode.snapshot : LegalCode.Statement .snapshot := show (0x8#4).toNat < 13 by decide
theorem LegalCode.xcorr (x y : List U16) : LegalCode.Statement (.xcorr x y) :=
  show (0x9#4).toNat < 13 by decide
theorem LegalCode.publish (ra rb : U16) (a b : List U16) (r : CorrResult) :
    LegalCode.Statement (.publish ra rb a b r) := show (0xA#4).toNat < 13 by decide
theorem LegalCode.report (kind : ErrorKind) : LegalCode.Statement (.report kind) :=
  show (0xB#4).toNat < 13 by decide
theorem LegalCode.resched : LegalCode.Statement .resched := show (0xC#4).toNat < 13 by decide

end Sys2Proof.Laws
end

