-- ==== Sys2Proof/Laws/Tick.lean ====
section
/-! SUPPORT. All that a tick can do, said once: an inversion lemma per phase of the tick. -/

namespace Sys2Proof.Machine

/-- Rendering ends `Published`, `Cleared` or `Appended`, or refuses series of unequal length. -/
theorem renderSnapshot_cases {c : Bool} {s t : State} (h : renderSnapshot c s = .next t) :
    (s.sa.length ≤ 1 ∧ t = finishTick (if c then .cleared else .appended) s) ∨
    (∃ (ra rb : U16) (r : CorrResult), 1 < s.sa.length ∧ s.sa.length = s.sb.length ∧
      s.sa.getLast? = some ra ∧ s.sb.getLast? = some rb ∧ xcorr s.sa s.sb = some r ∧
      t = finishTick .published (publishOp ⟨ra, rb, s.sa, s.sb, r⟩ (s.perform .xcorr))) := by
  unfold renderSnapshot at h
  split at h
  · rename_i h1
    split at h
    · rename_i e
      split at h
      · rename_i hx
        unfold xcorr at hx
        split at hx
        · rename_i hn
          have : s.sa.length < 2 := hn
          omega
        · cases hx
      · rename_i r hx
        injection h with h
        exact .inr ⟨_, _, r, h1, e, List.getLast?_eq_some_getLast _, List.getLast?_eq_some_getLast _, hx, h.symm⟩
    · cases h
  · rename_i h1
    injection h with h
    exact .inl ⟨by omega, h.symm⟩

/-- With at least 2 elements in series of one length, rendering publishes. -/
theorem renderSnapshot_publishes (c : Bool) {s : State} {ra rb : U16} {r : CorrResult}
    (h : 1 < s.sa.length) (e : s.sa.length = s.sb.length)
    (ha : s.sa.getLast? = some ra) (hb : s.sb.getLast? = some rb) (hx : xcorr s.sa s.sb = some r) :
    renderSnapshot c s =
      .next (finishTick .published (publishOp ⟨ra, rb, s.sa, s.sb, r⟩ (s.perform .xcorr))) := by
  unfold renderSnapshot
  rw [dif_pos h, dif_pos e, hx]
  rw [List.getLast?_eq_some_getLast (List.ne_nil_of_length_pos (by omega))] at ha hb
  simp only [Option.some.inj ha, Option.some.inj hb]

/-- With at most 1 element, rendering ends the tick without a call to the display. -/
theorem renderSnapshot_skips (c : Bool) {s : State} (h : s.sa.length ≤ 1) :
    renderSnapshot c s = .next (finishTick (if c then .cleared else .appended) s) :=
  dif_neg (Nat.not_lt.2 h)

/-- With series of equal length, rendering never refuses. -/
theorem renderSnapshot_next (c : Bool) {s : State} (e : s.sa.length = s.sb.length) :
    ∃ t, renderSnapshot c s = .next t := by
  unfold renderSnapshot
  split
  · split <;> exact ⟨_, rfl⟩
  · exact ⟨_, rfl⟩

/-- Filtering ends the tick `PrevUndefined`, or hands both filtered values to the append. -/
theorem tickFilter_cases (a b : U16) (s : State) :
    ((∃ fa fb, filterValue a s.sa.getLast? = some fa ∧ filterValue b s.sb.getLast? = some fb ∧
      tickFilter a b s = tickAppend fa fb
        (((((s.setPhase .filtering).perform .last).perform .last).perform .filter).perform .filter)) ∨
    ((filterValue a s.sa.getLast? = none ∨ filterValue b s.sb.getLast? = none) ∧
      tickFilter a b s =
        .next (earlyOut .prevUndefined (((s.setPhase .filtering).perform .last).perform .last)))) := by
  unfold tickFilter
  simp only [lastOf_A, lastOf_B, State.perform_sa, State.perform_sb, State.setPhase_sa, State.setPhase_sb]
  split
  · exact .inl ⟨_, _, ‹_›, ‹_›, rfl⟩
  · exact .inr ⟨.inr ‹_›, rfl⟩
  · exact .inr ⟨.inl ‹_›, rfl⟩
  · exact .inr ⟨.inl ‹_›, rfl⟩

/-- A tick ends `SourceNotReady` or `ShortRead`, or hands a frame's values to the filter. A read of more
than 4 bytes is the remaining case, which `execTick` refuses. -/
theorem tick_cases (avail : Nat) (rd : List Byte) (s : State) :
    (avail < 4 ∧ tick avail rd s =
      .next (earlyOut .sourceNotReady (pollOp avail ((s.perform .tick).setPhase .waiting)))) ∨
    (4 ≤ avail ∧ rd.length < 4 ∧ tick avail rd s =
      .next (earlyOut .shortRead (read4Op rd (pollOp avail ((s.perform .tick).setPhase .waiting))))) ∨
    (∃ a b, 4 ≤ avail ∧ decodeFrame rd = some (a, b) ∧ tick avail rd s =
      tickFilter a b (((read4Op rd (pollOp avail ((s.perform .tick).setPhase .waiting))).setPhase
        .decoding).perform .decode)) ∨
    (4 ≤ avail ∧ 4 < rd.length) := by
  by_cases h1 : avail < 4
  · exact .inl ⟨h1, if_pos h1⟩
  have h1' : 4 ≤ avail := Nat.not_lt.1 h1
  have e1 : tick avail rd s = tickRead rd (pollOp avail ((s.perform .tick).setPhase .waiting)) := if_neg h1
  by_cases h2 : rd.length < 4
  · exact .inr (.inl ⟨h1', h2, e1.trans (if_pos h2)⟩)
  have e2 := e1.trans (if_neg h2)
  cases h3 : decodeFrame rd with
  | some p =>
    refine .inr (.inr (.inl ⟨p.1, p.2, h1', rfl, e2.trans ?_⟩))
    simp only [tickDecode, h3]
  | none => exact .inr (.inr (.inr ⟨h1', by have := decodeFrame_none h3; omega⟩))

/-- Where TICK answers, the read was one that can be presented and the tick answers the same. -/
theorem execTick_next {avail : Nat} {rd : List Byte} {s t : State} (h : execTick avail rd s = .next t) :
    ¬ (4 ≤ avail ∧ 4 < rd.length) ∧ tick avail rd s = .next t := by
  unfold execTick at h
  split at h
  · cases h
  · exact ⟨‹_›, h⟩

/-- TICK, where the read can be presented, is the tick. -/
theorem execTick_eq {avail : Nat} {rd : List Byte} (s : State) (h : ¬ (4 ≤ avail ∧ 4 < rd.length)) :
    execTick avail rd s = tick avail rd s := if_neg h

/-- The filter answers a value in range, or any value on a channel that has a last element. -/
theorem filterValue_isSome {v : U16} {l : List U16} (h : v.toNat ≤ 6000 ∨ l ≠ []) :
    ∃ f, filterValue v l.getLast? = some f := by
  by_cases hv : v.toNat ≤ 6000
  · exact ⟨v, filterValue_of_le hv _⟩
  · have hl := h.resolve_left hv
    exact ⟨l.getLast hl, by rw [filterValue_of_gt (Nat.not_le.1 hv), List.getLast?_eq_some_getLast hl]⟩

/-- A tick that gets its frame, up to the filter. -/
theorem tick_decodes {avail : Nat} {rd : List Byte} {a b : U16} (s : State) (h : 4 ≤ avail)
    (hd : decodeFrame rd = some (a, b)) :
    tick avail rd s = tickFilter a b { s with
      phase := .decoding, calls := s.calls ++ [.srcAvail avail, .srcRead 4 rd],
      trace := s.trace ++ [⟨s.phase, .tick⟩, ⟨.waiting, .poll⟩, ⟨.waiting, .read4⟩, ⟨.decoding, .decode⟩] } := by
  have hl := decodeFrame_length hd
  rcases tick_cases avail rd s with ⟨h1, _⟩ | ⟨_, h2, _⟩ | ⟨a', b', _, h3, e⟩ | ⟨_, h4⟩
  · omega
  · omega
  · rw [hd] at h3
    cases h3
    rw [e]
    simp [read4Op_eq, pollOp_eq, State.perform, State.setPhase]
  · omega

/-- A tick whose values are both accepted: the append, then rendering on the new series. -/
theorem tick_accepts {avail : Nat} {rd : List Byte} {a b fa fb : U16} (s : State) (h : 4 ≤ avail)
    (hd : decodeFrame rd = some (a, b))
    (ha : filterValue a s.sa.getLast? = some fa) (hb : filterValue b s.sb.getLast? = some fb) :
    tick avail rd s = renderSnapshot (s.count.val == 1000) (appendBoth fa fb { s with
      phase := .rendering, calls := s.calls ++ [.srcAvail avail, .srcRead 4 rd],
      trace := s.trace ++ [⟨s.phase, .tick⟩, ⟨.waiting, .poll⟩, ⟨.waiting, .read4⟩, ⟨.decoding, .decode⟩,
        ⟨.filtering, .last⟩, ⟨.filtering, .last⟩, ⟨.filtering, .filter⟩, ⟨.filtering, .filter⟩,
        ⟨.buffering, .append⟩, ⟨.rendering, .snapshot⟩] }) := by
  rw [tick_decodes s h hd]
  rcases tickFilter_cases a b { s with
      phase := .decoding, calls := s.calls ++ [.srcAvail avail, .srcRead 4 rd],
      trace := s.trace ++ [⟨s.phase, .tick⟩, ⟨.waiting, .poll⟩, ⟨.waiting, .read4⟩, ⟨.decoding, .decode⟩] }
    with ⟨fa', fb', h1, h2, e⟩ | ⟨hn, _⟩
  · rw [ha] at h1
    rw [hb] at h2
    cases h1
    cases h2
    rw [e]
    unfold tickAppend tickRender appendBoth
    simp [State.perform, State.setPhase, wrapClear, pushBoth]
    congr 1
    by_cases hc : s.count.val = 1000 <;> simp [hc]
  · rw [ha, hb] at hn
    simp at hn

end Sys2Proof.Machine
end

