-- ==== Sys2Proof/Laws/Step.lean ====
section
/-! SUPPORT. All that a step can run, said once. -/

namespace Sys2Proof.Machine

/-- A step that answers ran what stood first on the command port, or the block's own tick on a state that
differs from the one before only in the source and the draws. -/
theorem step_cases {s t : State} (h : step s = .next t) :
    (∃ w rest i, s.cmds = w :: rest ∧ decode (.op w) = .ok i ∧ exec i { s with cmds := rest } = .next t) ∨
    (s.cmds = [] ∧ exec (ownTick s) (afterSource s) = .next t) := by
  unfold step fetch at h
  split at h
  · rename_i i s' hf
    split at hf
    · rename_i w rest hc
      split at hf
      · rename_i i' hd
        injection hf with hf
        injection hf with h1 h2
        subst h1 h2
        exact .inl ⟨w, rest, i', hc, hd, h⟩
      · cases hf
    · rename_i hc
      injection hf with hf
      injection hf with h1 h2
      subst h1 h2
      exact .inr ⟨hc, h⟩
  · cases h

/-- Drawing from the source touches nothing but `source` and `draws`. -/
theorem afterSource_eq (s : State) :
    afterSource s = { s with draws := s.draws + 1, source := (afterSource s).source } := by
  unfold afterSource
  split <;> rfl

end Sys2Proof.Machine
end

