-- ==== Sys2Proof/Laws/Xcorr.lean ====
section
/-! SUPPORT. The engine's small lemmas: lengths, lags, and the ends of XCORR. -/

namespace Sys2Proof.Machine

@[simp] theorem centred_length (x : List U16) : (centred x).length = x.length := by simp [centred]

/-- There are `2n - 1` lags (R118). -/
@[simp] theorem lags_length (n : Nat) : (lags n).length = 2 * n - 1 := by simp [lags]

/-- Position `p` carries lag `p - (n - 1)` (R118). -/
theorem lags_getElem? {n p : Nat} (h : p < 2 * n - 1) : (lags n)[p]? = some ((p : Int) - ((n : Int) - 1)) := by
  simp [lags, h]

/-- With at least 2 samples the engine answers (R121). -/
theorem xcorr_some {x y : List U16} (h : 2 ≤ x.length) :
    xcorr x y = some ⟨x.length * x.length,
      (lags x.length).map (fun k => (k, numerator (centred x) (centred y) k))⟩ :=
  if_neg (Nat.not_lt.2 h)

/-- With fewer it raises `EngineMisuse` (R121). -/
theorem xcorr_none {x y : List U16} (h : x.length < 2) : xcorr x y = none := if_pos h

end Sys2Proof.Machine
end

