-- ==== Sys2Proof/Tests/Slice0.lean ====
section
/-! SUPPORT. Tests of the model on vectors of spec/95_test_vectors.md and on words written out by hand. -/

namespace Sys2Proof.Tests

open Sys2Proof.Machine

/-! ## Well-formedness: an ill-formed term for each check -/

theorem test_wf_tick_overlong : ¬ (Instr.tick 4 [0, 0, 0, 0, 0]).WellFormed := by decide
theorem test_wf_tick_full : (Instr.tick 4 [0, 0, 0, 0]).WellFormed := by decide
theorem test_wf_decode_overlong : ¬ (Instr.decode [1, 2, 3, 4, 5]).WellFormed := by decide
theorem test_wf_xcorr_unequal : ¬ (Instr.xcorr [1, 2] [1, 2, 3]).WellFormed := by decide
theorem test_wf_publish_unequal : ¬ (Instr.publish 1 2 [1, 1] [2] ⟨4, [(0, 0), (0, 0), (0, 0)]⟩).WellFormed := by
  decide
theorem test_wf_publish_short_result : ¬ (Instr.publish 1 2 [1, 1] [2, 2] ⟨4, [(0, 0)]⟩).WellFormed := by decide
theorem test_wf_publish_wrong_den :
    ¬ (Instr.publish 1 2 [1, 1] [2, 2] ⟨3, [(-1, 0), (0, 0), (1, 0)]⟩).WellFormed := by decide
theorem test_wf_publish : (Instr.publish 1 2 [1, 1] [2, 2] ⟨4, [(-1, 0), (0, 0), (1, 0)]⟩).WellFormed := by
  decide

/-! ## Decoding: a word for every constructor, written out from R65 and R70 -/

/-- V-D5: every byte distinct, so the order shows. -/
theorem test_decode_frame : decode (.frame [0x78, 0x56, 0x34, 0x12]) = .ok (.frame 4660 22136) := by decide
/-- V-D9: the two values around the threshold, bit by bit. -/
theorem test_decode_frame_bits :
    decode (.frame [0b01110000, 0b00010111, 0b01110001, 0b00010111]) = .ok (.frame 6001 6000) := by decide
theorem test_decode_frame_short : decode (.frame [0xAA, 0xBB, 0xCC]) = .error (.incompleteFrame 3) := by decide
theorem test_decode_frame_long : decode (.frame [0, 0, 0, 0, 0]) = .error (.overlongFrame 5) := by decide
theorem test_decode_reset : decode (.op ⟨0b0000, {}⟩) = .ok .reset := by decide
theorem test_decode_tick : decode (.op ⟨0b0001, { avail := 9, bytes := [1, 2] }⟩) = .ok (.tick 9 [1, 2]) := by
  decide
theorem test_decode_poll : decode (.op ⟨0b0010, {}⟩) = .ok .poll := by decide
theorem test_decode_read4 : decode (.op ⟨0b0011, {}⟩) = .ok .read4 := by decide
theorem test_decode_decode : decode (.op ⟨0b0100, { bytes := [7] }⟩) = .ok (.decode [7]) := by decide
theorem test_decode_filter : decode (.op ⟨0b0101, { v := 7, prev := some 8 }⟩) = .ok (.filter 7 (some 8)) := by
  decide
theorem test_decode_append : decode (.op ⟨0b0110, { fa := 7, fb := 8 }⟩) = .ok (.append 7 8) := by decide
theorem test_decode_last : decode (.op ⟨0b0111, { ch := .B }⟩) = .ok (.last .B) := by decide
theorem test_decode_snapshot : decode (.op ⟨0b1000, {}⟩) = .ok .snapshot := by decide
theorem test_decode_xcorr : decode (.op ⟨0b1001, { x := [1], y := [2] }⟩) = .ok (.xcorr [1] [2]) := by decide
theorem test_decode_publish :
    decode (.op ⟨0b1010, { ra := 1, rb := 2, x := [3], y := [4], corr := ⟨5, [(6, 7)]⟩ }⟩) =
      .ok (.publish 1 2 [3] [4] ⟨5, [(6, 7)]⟩) := by decide
theorem test_decode_report : decode (.op ⟨0b1011, { kind := .shortRead }⟩) = .ok (.report .shortRead) := by
  decide
theorem test_decode_resched : decode (.op ⟨0b1100, {}⟩) = .ok .resched := by decide
theorem test_decode_reserved : decode (.op ⟨0b1101, {}⟩) = .error (.reservedOpc 0b1101) := by decide

/-- V-D1, V-E6 and the codes, as the opcode table numbers their bits. -/
theorem test_table_words :
    decodeTableWord 32 0x00010000 = some (.frame 1 0) ∧ decodeTableWord 32 0x12345678 = some (.frame 4660 22136) ∧
    decodeTableWord 8 0x5 = some (.filter 0 none) ∧ decodeTableWord 4 0x6 = some (.append 0 0) ∧
    decodeTableWord 8 0xF = none ∧ decodeTableWord 8 0x10 = none ∧ decodeTableWord 16 0 = none := by decide

/-- V-E2, V-E3: the encoder. -/
theorem test_encode_frame :
    encodeFrame 7000 50 = [0x32, 0x00, 0x58, 0x1B] ∧ encodeFrame 6000 6001 = [0x71, 0x17, 0x70, 0x17] := by decide

/-- The codes of R70 to R73 and R155. -/
theorem test_codes :
    Opc.resched.code = 0xC ∧ Phase.rendering.code = 5 ∧ TickOutcome.incompleteFrame.code = 7 ∧
    kindCode .sourceNotReady = 3 ∧ kindCode .prevUndefined = 5 ∧ ErrorKind.text .shortRead = some "incomplete data" := by
  decide

/-! ## Small states -/

/-- A state with the given series and count, nothing recorded, a free source. -/
def st (sa sb : List U16) (count : Fin 1001) : State :=
  { State.reset with sa := sa, sb := sb, count := count, phase := .waiting }

/-- The same with bytes waiting at the source. -/
def stQ (q : List Byte) : State := { State.reset with source := .queue q }

/-- The same with operation words presented. -/
def stC (cmds : List OpWord) : State := { State.reset with cmds := cmds }

/-- What the state after an instruction is asked, if it completes. -/
def after {α : Type} (o : Host.Outcome State Fault Refusal) (f : State → α) : Option α :=
  match o with
  | .next t => some (f t)
  | .fault _ => none
  | .refused _ => none

/-- Whether an instruction completes. -/
def completes (o : Host.Outcome State Fault Refusal) : Bool := (after o (fun _ => ())).isSome

/-! ## Every row runs as the first instruction after reset -/

theorem test_every_row_runs_after_reset :
    completes (step (State.reset.withFetchWord 32 0x00010000)) = true ∧
    ∀ c : Fin 13, completes (step (State.reset.withFetchWord 8 c.val)) = true := by decide

theorem test_placed_frame_is_taken :
    after (step (State.reset.withFetchWord 32 0x00010000)) (fun t => (t.sa, t.sb, t.ret)) =
      some ([0, 1], [0, 0], .outcome .published) := by decide

/-! ## The operations, on the vectors of 95_test_vectors.md -/

/-- V-D4. -/
theorem test_exec_decode :
    after (exec (.decode [0x32, 0x00, 0x58, 0x1B]) State.reset) State.ret = some (.sample 7000 50) := by decide
/-- V-D14. -/
theorem test_exec_decode_incomplete :
    after (exec (.decode [0xAA, 0xBB, 0xCC]) State.reset) (fun t => (t.ret, t.fault)) =
      some (.raised .incompleteFrame, 0b100) := by decide
/-- V-F3, V-F4. -/
theorem test_exec_filter_threshold :
    after (exec (.filter 6000 (some 123)) State.reset) State.ret = some (.value 6000) ∧
    after (exec (.filter 6001 (some 123)) State.reset) State.ret = some (.value 123) := by decide
/-- V-F8, V-F9, V-F10. -/
theorem test_exec_filter_absent :
    after (exec (.filter 6000 none) State.reset) State.ret = some (.value 6000) ∧
    after (exec (.filter 6001 none) State.reset) (fun t => (t.ret, t.fault)) = some (.raised .prevUndefined, 0b001) ∧
    after (exec (.filter 32768 (some 5)) State.reset) State.ret = some (.value 5) := by decide
/-- V-B1. -/
theorem test_exec_append :
    after (exec (.append 1 0) State.reset) (fun t => (t.sa, t.sb, t.count)) = some ([0, 1], [0, 0], 1) := by decide
/-- V-B3 to V-B5, on short series: the clear depends on `COUNT` alone. -/
theorem test_exec_append_clears :
    after (exec (.append 7 8) (st [1, 2] [3, 4] 1000)) (fun t => (t.sa, t.sb, t.count)) = some ([], [], 0) ∧
    after (exec (.append 7 8) (st [1, 2] [3, 4] 999)) (fun t => (t.sa, t.sb, t.count)) =
      some ([1, 2, 7], [3, 4, 8], 1000) := by decide
/-- V-B8, V-B9. -/
theorem test_exec_last :
    after (exec (.last .A) (st [] [] 0)) State.ret = some (.last none) ∧
    after (exec (.last .B) (st [0, 1, 1] [0, 0, 50] 2)) State.ret = some (.last (some 50)) := by decide
/-- V-B10. -/
theorem test_exec_snapshot :
    after (exec .snapshot (st [0, 1, 1] [0, 0, 50] 2)) State.ret = some (.series [0, 1, 1] [0, 0, 50]) := by decide
/-- V-X6: not symmetric, so a swapped operand or a turned lag shows. -/
theorem test_exec_xcorr :
    after (exec (.xcorr [0, 1, 1] [0, 0, 50]) State.reset) State.ret =
      some (.corr ⟨9, [(-2, -200), (-1, 200), (0, 150), (1, -100), (2, -50)]⟩) := by decide
/-- V-X11: `y` is `x` delayed by 2, the peak is at lag -2. -/
theorem test_xcorr_lag_sign :
    xcorr [0, 0, 0, 100, 0, 0, 0, 0] [0, 0, 0, 0, 0, 100, 0, 0] =
      some ⟨64, [(-7, 10000), (-6, 20000), (-5, -50000), (-4, -120000), (-3, -110000), (-2, 540000), (-1, -90000),
        (0, -80000), (1, -90000), (2, -100000), (3, -30000), (4, 40000), (5, 30000), (6, 20000), (7, 10000)]⟩ := by
  decide
/-- V-X5: values over 32 bits, and the same through the wire layout of R74. -/
theorem test_xcorr_wide :
    xcorr [0, 65535] [65535, 0] = some ⟨4, [(-1, 4294836225), (0, -8589672450), (1, 4294836225)]⟩ ∧
    CorrResult.wire ⟨4, [(-1, 4294836225)]⟩ = (4#20, [(0x7FF#11, 0x00000000FFFE0001#64)]) := by decide
/-- V-X14. -/
theorem test_exec_xcorr_misuse :
    after (exec (.xcorr [7] [7]) State.reset) (fun t => (t.ret, t.fault)) = some (.raised .engineMisuse, 0b010) := by
  decide
/-- R135's worked example. -/
theorem test_exec_read4 :
    after (exec .read4 (stQ [0x00, 0x00, 0x01, 0x00, 0xAA])) (fun t => (t.ret, t.source)) =
      some (.bytes [0x00, 0x00, 0x01, 0x00], .queue [0xAA]) := by decide
theorem test_exec_poll :
    after (exec .poll (stQ [1, 2, 3])) (fun t => (t.ret, t.source)) = some (.avail 3, .queue [1, 2, 3]) := by decide
theorem test_exec_report : after (exec (.report .shortRead) State.reset) State.calls = some [.report .shortRead] := by
  decide
theorem test_exec_resched : after (exec .resched State.reset) State.calls = some [.resched 100] := by decide
theorem test_exec_publish :
    after (exec (.publish 1 2 [1] [2] ⟨1, [(0, 0)]⟩) State.reset) State.calls =
      some [.publish ⟨1, 2, [1], [2], ⟨1, [(0, 0)]⟩⟩] := by decide
theorem test_exec_reset :
    after (exec .reset { st [7] [8] 5 with fault := 0b111 }) (fun t => (t.sa, t.sb, t.count, t.phase, t.fault)) =
      some ([0], [0], 0, .idle, 0) := by decide

/-! ## The tick: V-T1 to V-T12 -/

/-- V-T2, V-T4. -/
theorem test_tick_early_outs :
    after (exec (.tick 3 []) State.reset) (fun t => (t.sa, t.calls)) =
      some ([0], [.srcAvail 3, .report .sourceNotReady, .resched 100]) ∧
    after (exec (.tick 9 [0xAA, 0xBB, 0xCC]) State.reset) (fun t => (t.sa, t.calls)) =
      some ([0], [.srcAvail 9, .srcRead 4 [0xAA, 0xBB, 0xCC], .report .shortRead, .resched 100]) := by decide
/-- V-T5. -/
theorem test_tick_publishes :
    after (exec (.tick 4 [0x00, 0x00, 0x01, 0x00]) State.reset) (fun t => (t.sa, t.sb, t.count, t.calls)) =
      some ([0, 1], [0, 0], 1, [.srcAvail 4, .srcRead 4 [0x00, 0x00, 0x01, 0x00],
        .publish ⟨1, 0, [0, 1], [0, 0], ⟨4, [(-1, 0), (0, 0), (1, 0)]⟩⟩, .resched 100]) := by decide
/-- V-T7: both values replaced by the seed. -/
theorem test_tick_clamps_to_seed :
    after (exec (.tick 4 [0xFF, 0xFF, 0x58, 0x1B]) State.reset) (fun t => (t.sa, t.sb, t.ret)) =
      some ([0, 0], [0, 0], .outcome .published) := by decide
/-- V-T9, V-T11, V-T12. -/
theorem test_tick_on_empty_series :
    after (exec (.tick 4 [0x14, 0x00, 0x0A, 0x00]) (st [] [] 0)) (fun t => (t.sa, t.sb, t.ret)) =
      some ([10], [20], .outcome .appended) ∧
    after (exec (.tick 4 [0x0A, 0x00, 0x58, 0x1B]) (st [] [] 0)) (fun t => (t.sa, t.fault, t.ret)) =
      some ([], 0b001, .outcome .prevUndefined) ∧
    after (exec (.tick 4 [0x70, 0x17, 0x70, 0x17]) (st [] [] 0)) (fun t => (t.sa, t.fault)) = some ([6000], 0) := by
  decide
/-- V-T10. -/
theorem test_frame_second_push :
    after (exec (.frame 30 25) (st [10] [20] 1)) (fun t => (t.sa, lastPublish t.calls)) =
      some ([10, 30], some ⟨30, 25, [10, 30], [20, 25], ⟨4, [(-1, -100), (0, 200), (1, -100)]⟩⟩) := by decide
/-- V-T8, on short series. -/
theorem test_frame_clears :
    after (exec (.frame 42 43) (st [1, 2] [3, 4] 1000)) (fun t => (t.sa, t.sb, t.count, t.ret, lastPublish t.calls)) =
      some ([], [], 0, .outcome .cleared, none) := by decide
/-- P4, first tick, over a byte queue: the stray byte shifts the frame and is not noticed. -/
theorem test_step_takes_four_of_the_queue :
    after (step (stQ [0xFF, 0x02, 0x00, 0x01, 0x00])) (fun t => (t.sa, t.sb, t.source)) =
      some ([0, 256], [0, 767], .queue [0x00]) := by decide

end Sys2Proof.Tests
end

