-- ==== Sys2Proof/Tests/Witness.lean ====
section
/-! SUPPORT. For every statement of Certificates/Slice0/Obligations.lean that has hypotheses, a concrete state
and operands that meet all of them, for each clause at the boundary of its range. -/

namespace Sys2Proof.Tests

open Sys2Proof.Machine

/-! ## Encoding and the step -/

theorem witness_FrameRoundTrip : ([0xFF, 0x00, 0x80, 0x7F] : List Byte).length = 4 := by decide
theorem witness_ReservedCodesRefused :
    (stC [⟨0xD, {}⟩]).cmds = ⟨0xD, {}⟩ :: [] ∧ 13 ≤ (0xD#4).toNat ∧ (0xC#4).toNat < 13 := by decide
theorem witness_StepRunsPresentedCommand :
    (stC [⟨0x6, { fa := 1 }⟩, ⟨0x2, {}⟩]).cmds = ⟨0x6, { fa := 1 }⟩ :: [⟨0x2, {}⟩] ∧
    decode (.op ⟨0x6, { fa := 1 }⟩) = .ok (.append 1 0) := by decide
theorem witness_StepRunsFrameAtSource :
    (stQ [1, 0, 2, 0]).cmds = [] ∧ (stQ [1, 0, 2, 0]).source = .queue [1, 0, 2, 0] ∧
    decode (.frame [1, 0, 2, 0]) = .ok (.frame 2 1) := by decide
theorem witness_StepRunsOwnTick :
    (State.reset.cmds = [] ∧ State.reset.source = .free) ∧
    ((stQ [1, 2, 3]).cmds = [] ∧ (stQ [1, 2, 3]).source = .queue [1, 2, 3] ∧ [1, 2, 3].length < 4) ∧
    ((stQ [1, 2, 3, 4]).source = .queue [1, 2, 3, 4] ∧ 4 ≤ [1, 2, 3, 4].length) := by decide

/-! ## Decoder, filter, buffer -/

theorem witness_DecodeOfTooFewBytesRaises :
    ([1, 2, 3] : List Byte).length < 4 ∧ ([] : List Byte).length < 4 := by decide
theorem witness_OverlongReadsRefused : 4 < ([1, 2, 3, 4, 5] : List Byte).length ∧ 4 ≤ 4 ∧ 3 < 4 := by decide
theorem witness_FilterClampsOrRaises : (6000#16).toNat ≤ 6000 ∧ 6000 < (6001#16).toNat := by decide
theorem witness_FilterIsIdempotent :
    (50#16).toNat ≤ 6000 ∧ filterValue 7000 (some 50) = some 50 ∧ filterValue 6000 (some 50) = some 6000 := by decide
theorem witness_AppendPushesBoth : (st [1] [2] 999).count.val < 1000 := by decide
theorem witness_AppendAtCapacityClears : (st [1] [2] 1000).count.val = 1000 := by decide

/-! ## Engine -/

theorem witness_XcorrReturnsExactResult :
    ([0, 1] : List U16).length = 2 ∧ ([4, 0] : List U16).length = 2 ∧ 2 ≤ 2 ∧ 2 < 2 * 2 - 1 := by decide
theorem witness_XcorrEqualsMeanCentredFormula :
    after (exec (.xcorr [0, 3] [4, 0]) State.reset) State.ret =
      some (.corr ⟨4, [(-1, 12), (0, -24), (1, 12)]⟩) ∧
    0 < ([(-1, 12), (0, -24), (1, 12)] : List (Int × Int)).length := by decide
theorem witness_XcorrOfTooFewRaises :
    ([7] : List U16).length = ([7] : List U16).length ∧ ([7] : List U16).length < 2 ∧ ([] : List U16).length < 2 := by
  decide
theorem witness_XcorrOfUnequalLengthsRefused : ([1, 2] : List U16).length ≠ ([1, 2, 3] : List U16).length := by decide
theorem witness_XcorrIsSymmetric :
    ([0, 1, 1] : List U16).length = ([0, 0, 50] : List U16).length ∧
    xcorr [0, 1, 1] [0, 0, 50] = some ⟨9, [(-2, -200), (-1, 200), (0, 150), (1, -100), (2, -50)]⟩ ∧
    xcorr [0, 0, 50] [0, 1, 1] = some ⟨9, [(-2, -50), (-1, -100), (0, 150), (1, 200), (2, -200)]⟩ := by decide
theorem witness_XcorrEntriesSumToZero :
    ([0, 3] : List U16).length = ([4, 0] : List U16).length ∧
    xcorr [0, 3] [4, 0] = some ⟨4, [(-1, 12), (0, -24), (1, 12)]⟩ := by decide
theorem witness_AutocorrelationPeaksAtLagZero :
    xcorr [1, 2, 3, 4, 5] [1, 2, 3, 4, 5] = some ⟨25, [(-4, -100), (-3, -100), (-2, -25), (-1, 100), (0, 250),
      (1, 100), (2, -25), (3, -100), (4, -100)]⟩ := by decide
theorem witness_ConstantInputGivesZero :
    ([5, 5] : List U16).length = ([1, 9] : List U16).length ∧ (∀ v ∈ ([5, 5] : List U16), v = 5) ∧
    xcorr [5, 5] [1, 9] = some ⟨4, [(-1, 0), (0, 0), (1, 0)]⟩ := ⟨rfl, by simp, by decide⟩
theorem witness_ConstantInputGivesZero_second :
    ([1, 9] : List U16).length = ([5, 5] : List U16).length ∧ (∀ v ∈ ([5, 5] : List U16), v = 5) ∧
    xcorr [1, 9] [5, 5] = some ⟨4, [(-1, 0), (0, 0), (1, 0)]⟩ := ⟨rfl, by simp, by decide⟩
theorem witness_ResultWidthsHoldEveryValue :
    ∃ r, (List.replicate 1001 (65535 : U16)).length ≤ 1001 ∧
      xcorr (List.replicate 1001 65535) (List.replicate 1001 65535) = some r := by
  refine ⟨_, Nat.le_of_eq List.length_replicate, xcorr_some ?_⟩
  rw [List.length_replicate]
  exact Nat.le_of_ble_eq_true rfl

/-! ## The collaborators -/

theorem witness_PollAnswersTheCount : (stQ [1, 2]).source = .queue [1, 2] ∧ State.reset.source = .free := by decide
theorem witness_ReadTakesAtMostFourBytes :
    (stQ [1, 2, 3, 4, 5]).source = .queue [1, 2, 3, 4, 5] ∧ (stQ []).source = .queue [] ∧
    State.reset.source = .free := by decide

/-! ## The tick -/

theorem witness_TickWithoutDataSkips : 3 < 4 := by decide
theorem witness_TickWithShortReadSkips : 4 ≤ 4 ∧ ([1, 2, 3] : List Byte).length < 4 := by decide
theorem witness_TickWithoutPreviousRaises :
    4 ≤ 4 ∧ decodeFrame [0x0A, 0x00, 0x71, 0x17] = some (6001, 10) ∧
    (6000 < (6001#16).toNat ∧ (st [] [] 0).sa = []) ∧
    decodeFrame [0x71, 0x17, 0x0A, 0x00] = some (10, 6001) ∧
    (6000 < (6001#16).toNat ∧ (st [] [] 0).sb = []) := by decide
theorem witness_TickAtCapacityClears :
    decodeFrame [0xFF, 0xFF, 0x70, 0x17] = some (6000, 65535) ∧ (6000#16).toNat ≤ 6000 ∧
    (st [1] [2] 1000).sb ≠ [] ∧ (st [1] [2] 1000).count.val = 1000 := by decide
theorem witness_TickAfterClearAppends :
    (st [] [] 0).count.val < 1000 ∧ decodeFrame [0x70, 0x17, 0x70, 0x17] = some (6000, 6000) ∧
    (6000#16).toNat ≤ 6000 ∧ (st [] [] 0).sa = [] ∧ (st [] [] 0).sb = [] := by decide
theorem witness_TickPushesAndPublishes :
    (st [7] [8] 999).count.val < 1000 ∧ 4 ≤ 4 ∧ decodeFrame [0x71, 0x17, 0x70, 0x17] = some (6000, 6001) ∧
    (st [7] [8] 999).sa.length = (st [7] [8] 999).sb.length ∧ (st [7] [8] 999).sa.getLast? = some 7 ∧
    (st [7] [8] 999).sb.getLast? = some 8 ∧ 6000#16 = (if (6000#16).toNat ≤ 6000 then 6000#16 else 7#16) ∧
    8#16 = (if (6001#16).toNat ≤ 6000 then 6001#16 else 8#16) := by decide
theorem witness_FrameInRangeIsPushed :
    (6000#16).toNat ≤ 6000 ∧ (0#16).toNat ≤ 6000 ∧ (st [] [] 0).count.val < 1000 ∧
    (st [] [] 0).sa.length = (st [] [] 0).sb.length ∧ (st [7] [8] 999).count.val < 1000 ∧
    (st [7] [8] 999).sa.length = (st [7] [8] 999).sb.length := by decide

/-! ## Whole-machine rules -/

theorem witness_TickNeverMisusesItsParts :
    completes (exec (.tick 4 [0, 0, 1, 0]) State.reset) = true ∧ completes (exec (.frame 7000 7000) (st [] [] 0)) = true := by
  decide
theorem witness_EveryTickReschedulesLast :
    ([0, 0, 1, 0] : List Byte).length ≤ 4 ∧ State.reset.sa.length = State.reset.sb.length := by decide
theorem witness_ErrorKindsArePrecise :
    after (exec (.tick 0 []) State.reset) State.ret = some (.outcome (outcomeOf .sourceNotReady)) ∧
    after (exec (.tick 4 [1]) State.reset) State.ret = some (.outcome (outcomeOf .shortRead)) ∧
    after (exec (.frame 6001 0) (st [] [] 0)) State.ret = some (.outcome (outcomeOf .prevUndefined)) := by decide
theorem witness_DisplayChangesOnlyWhenPublished :
    after (exec (.frame 1 1) (st [] [] 0)) (fun t => (t.ret, lastPublish t.calls)) =
      some (.outcome .appended, none) ∧
    after (exec .reset { State.reset with calls := [.publish ⟨1, 2, [1], [2], ⟨1, [(0, 0)]⟩⟩] })
      (fun t => lastPublish t.calls) = some (some ⟨1, 2, [1], [2], ⟨1, [(0, 0)]⟩⟩) ∧
    after (exec (.frame 1 0) State.reset) (fun t => (t.ret, (lastPublish t.calls).isSome)) =
      some (.outcome .published, true) := by decide
theorem witness_DisplayChangesOnlyWhenPublished_instr :
    (∀ ra rb a b r, Instr.reset ≠ .publish ra rb a b r) ∧
    (∀ ra rb a b r, Instr.frame 1 0 ≠ .publish ra rb a b r) := ⟨nofun, nofun⟩
theorem witness_SeededSeriesNeverFault :
    State.reset.sa ≠ [] ∧ State.reset.sb ≠ [] ∧ completes (exec (.frame 65535 65535) State.reset) = true ∧
    State.reset.fault = 0#3 := by decide
theorem witness_PhaseIsNotRead :
    completes (exec (.tick 4 [0, 0, 1, 0]) { State.reset with phase := .waiting }) = true ∧
    completes (exec (.frame 6001 0) { st [] [] 0 with phase := .idle, trace := [⟨.idle, .reset⟩] }) = true := by
  decide
theorem witness_takesFrame_frame : TakesFrame (.frame 6001 3) 6001 3 := .inl rfl
theorem witness_takesFrame_tick : TakesFrame (.tick 9 [0x71, 0x17, 0x70, 0x17]) 6000 6001 :=
  .inr ⟨9, [0x71, 0x17, 0x70, 0x17], by decide, by decide, rfl⟩
/-- First and second clause: in range and out of range, series and values of the other channel that differ. -/
theorem witness_ChannelAIgnoresChannelB :
    (st [7] [1] 999).count.val < 1000 ∧
    (st [7] [1] 5).sa = (st [7] [2] 5).sa ∧ (st [7] [1] 5).count = (st [7] [2] 5).count ∧
    after (exec (.frame 6001 3) (st [7] [1] 5)) State.ret = some (.outcome .published) ∧
    after (exec (.frame 6001 6001) (st [7] [2] 5)) State.ret = some (.outcome .published) ∧
    after (exec (.frame 6000 6001) (st [7] [1] 999)) State.ret = some (.outcome .published) := by decide
/-- Third clause, the mirror of the second. -/
theorem witness_ChannelAIgnoresChannelB_mirror :
    (st [1] [7] 5).sb = (st [2] [7] 5).sb ∧ (st [1] [7] 5).count = (st [2] [7] 5).count ∧
    after (exec (.frame 3 6001) (st [1] [7] 5)) State.ret = some (.outcome .published) ∧
    after (exec (.frame 6001 6001) (st [2] [7] 5)) State.ret = some (.outcome .published) := by decide
/-- Fourth clause, on a state that accepts and on one that raises. -/
theorem witness_ChannelAIgnoresChannelB_rejected :
    6000 < (6001#16).toNat ∧ 6000 < (65535#16).toNat ∧
    completes (exec (.frame 6001 3) (st [7] [1] 5)) = true ∧
    completes (exec (.frame 65535 3) (st [7] [1] 5)) = true ∧
    completes (exec (.frame 6001 6001) (st [] [] 0)) = true ∧
    completes (exec (.frame 65535 65535) (st [] [] 0)) = true := by decide
/-- One instruction for each clause of the access table. -/
theorem witness_OnlyTheListedOperationsWrite :
    completes (exec .snapshot State.reset) = true ∧ completes (exec (.append 1 2) State.reset) = true ∧
    completes (exec (.decode []) State.reset) = true ∧ completes (exec .poll (stQ [1])) = true := by decide
theorem witness_FaultBitsAreSticky :
    completes (exec (.filter 7000 none) { State.reset with fault := 0b110 }) = true ∧
    (Instr.filter 7000 none) ≠ .reset := by decide
/-- Series of the greatest length, at the greatest `COUNT`. -/
theorem fullSeries_sound : Sound (st (List.replicate 1001 0) (List.replicate 1001 0) 1000) :=
  ⟨rfl, .inr (List.length_replicate (n := 1001) (a := (0 : U16))), .inr rfl⟩

/-- Below and at capacity, in epoch 0 and after it. -/
theorem witness_SeedReturnsOnlyByReset :
    Sound (st [5] [6] 1) ∧ Sound (st (List.replicate 1001 0) (List.replicate 1001 0) 1000) ∧
    (Instr.append 1 2) ≠ .reset ∧ completes (exec (.append 1 2) (st [5] [6] 1)) = true := by
  refine ⟨⟨rfl, .inl rfl, .inr rfl⟩, fullSeries_sound, by decide, by decide⟩
theorem witness_EveryPresentableInstructionCompletes :
    Sound State.reset ∧ (Instr.tick 4 [1, 2, 3, 4]).WellFormed ∧ (Instr.decode [1, 2]).WellFormed ∧
    (Instr.xcorr [1] [2]).WellFormed := ⟨⟨rfl, .inr rfl, .inl rfl⟩, by decide, by decide, by decide⟩
theorem witness_LoopNeverStops : Sound (st [] [] 0) ∧ (st [] [] 0).cmds = [] := ⟨⟨rfl, .inl rfl, .inr rfl⟩, rfl⟩
theorem witness_CounterWidthsHoldEveryValue :
    Sound (st (List.replicate 1001 0) (List.replicate 1001 0) 1000) :=
  fullSeries_sound
theorem witness_QueueIsReadFourAtATime :
    (stQ [1, 2, 3]).cmds = [] ∧ completes (step (stQ [1, 2, 3])) = true ∧
    completes (step (stQ [1, 0, 2, 0])) = true := by decide
theorem witness_StepKeepsSound :
    Sound (stC [⟨0x6, { fa := 7 }⟩]) ∧ completes (step (stC [⟨0x6, { fa := 7 }⟩])) = true :=
  ⟨⟨rfl, .inr rfl, .inl rfl⟩, by decide⟩
theorem witness_StepKeepsReachable :
    Reachable (stC [⟨0x1, { avail := 4, bytes := [0, 0, 1, 0] }⟩]) ∧
    completes (step (stC [⟨0x1, { avail := 4, bytes := [0, 0, 1, 0] }⟩])) = true := by
  refine ⟨⟨⟨rfl, .inr rfl, .inl rfl⟩, ?_, ?_, rfl, ?_⟩, by decide⟩
  · intro v hv
    have : v = 0#16 := List.mem_singleton.1 hv
    rw [this]; decide
  · intro v hv
    have : v = 0#16 := List.mem_singleton.1 hv
    rw [this]; decide
  · intro w hw
    have : w = ⟨0x1, { avail := 4, bytes := [0, 0, 1, 0] }⟩ := List.mem_singleton.1 hw
    rw [this]; exact .inr rfl

end Sys2Proof.Tests
end

section
/-! PROOFS. The widths of `COUNT` and `LEN` (spec/00_scope.md R13, spec/10_state.md R23, R24). -/

namespace Sys2Proof

open Machine

/-- I1 of R27: series B has length `LEN` too. -/
theorem Sound.sb_length {s : State} (h : Sound s) : s.sb.length = s.len := by
  obtain ⟨hsame, -, -⟩ := h
  exact hsame.symm

/-- I4 of R27: `LEN` is at most one more than the greatest `COUNT`. -/
theorem Sound.len_le {s : State} (h : Sound s) : s.len ≤ 1001 := by
  obtain ⟨-, hlen, -⟩ := h
  have hcount : s.count.val ≤ 1000 := count_le s
  unfold State.len
  omega

/-- The `COUNT` register loses nothing in any state: `COUNT` is below 2^10 by its type. -/
theorem Machine.State.countReg_toNat (s : State) : s.countReg.toNat = s.count.val :=
  Nat.mod_eq_of_lt (Nat.lt_of_le_of_lt (count_le s) (by decide))

/-- The `LEN` register loses nothing in a sound state: `LEN` is below 2^10. -/
theorem Sound.lenReg_toNat {s : State} (h : Sound s) : s.lenReg.toNat = s.len :=
  Nat.mod_eq_of_lt (Nat.lt_of_le_of_lt h.len_le (by decide))

/-- Settles O55: the bounds on `COUNT` and `LEN` keep both below 2^10. -/
theorem counterWidthsHoldEveryValue : Obligations.CounterWidthsHoldEveryValue := by
  intro s h
  exact ⟨h.len_le, s.countReg_toNat, h.lenReg_toNat, h.sb_length⟩

end Sys2Proof
end

section
/-! PROOFS. What an append leaves alone, and what one tick does in each case of spec/44_acquisition_tick.md R144: an
equation per case, of any state. Two filtered values are `tick_accepts`. -/

namespace Sys2Proof.Machine

/-- The append of R102 works on the stores alone: the phase and the observer's record may be any. -/
theorem appendBoth_setRecord (fa fb : U16) (s : State) (p : Phase) (c : List Call) (tr : List TraceEntry)
    (r : Result) :
    appendBoth fa fb { s with phase := p, calls := c, trace := tr, ret := r } =
      { appendBoth fa fb s with phase := p, calls := c, trace := tr, ret := r } := by
  unfold appendBoth
  split <;> rfl

/-- An append touches the stores and nothing else (R108). -/
theorem appendBoth_eq (fa fb : U16) (s : State) :
    appendBoth fa fb s = { s with
      sa := (appendBoth fa fb s).sa, sb := (appendBoth fa fb s).sb, count := (appendBoth fa fb s).count } := by
  unfold appendBoth
  split <;> rfl

@[simp] theorem appendBoth_phase (fa fb : U16) (s : State) : (appendBoth fa fb s).phase = s.phase := by
  rw [appendBoth_eq]
@[simp] theorem appendBoth_fault (fa fb : U16) (s : State) : (appendBoth fa fb s).fault = s.fault := by
  rw [appendBoth_eq]
@[simp] theorem appendBoth_source (fa fb : U16) (s : State) : (appendBoth fa fb s).source = s.source := by
  rw [appendBoth_eq]
@[simp] theorem appendBoth_cmds (fa fb : U16) (s : State) : (appendBoth fa fb s).cmds = s.cmds := by
  rw [appendBoth_eq]

/-- A tick with fewer than 4 bytes available ends `SourceNotReady` before it reads (R156). -/
theorem tick_noData {avail : Nat} (rd : List Byte) (s : State) (h : avail < 4) :
    tick avail rd s = .next (earlyOut .sourceNotReady (pollOp avail ((s.perform .tick).setPhase .waiting))) :=
  if_pos h

/-- A tick whose read answers fewer than 4 bytes ends `ShortRead` (R157). -/
theorem tick_shortRead {avail : Nat} {rd : List Byte} (s : State) (h : 4 ≤ avail) (hl : rd.length < 4) :
    tick avail rd s =
      .next (earlyOut .shortRead (read4Op rd (pollOp avail ((s.perform .tick).setPhase .waiting)))) :=
  (if_neg (Nat.not_lt.2 h)).trans (if_pos hl)

/-- A tick in which one of the two filters would raise ends `PrevUndefined` in `Filtering` (R160). -/
theorem tick_rejects {avail : Nat} {rd : List Byte} {a b : U16} (s : State) (h : 4 ≤ avail)
    (hd : decodeFrame rd = some (a, b))
    (hn : filterValue a s.sa.getLast? = none ∨ filterValue b s.sb.getLast? = none) :
    tick avail rd s = .next (earlyOut .prevUndefined { s with
      phase := .filtering, calls := s.calls ++ [.srcAvail avail, .srcRead 4 rd],
      trace := s.trace ++ [⟨s.phase, .tick⟩, ⟨.waiting, .poll⟩, ⟨.waiting, .read4⟩, ⟨.decoding, .decode⟩,
        ⟨.filtering, .last⟩, ⟨.filtering, .last⟩] }) := by
  rw [tick_decodes s h hd]
  rcases tickFilter_cases a b { s with
      phase := .decoding, calls := s.calls ++ [.srcAvail avail, .srcRead 4 rd],
      trace := s.trace ++ [⟨s.phase, .tick⟩, ⟨.waiting, .poll⟩, ⟨.waiting, .read4⟩, ⟨.decoding, .decode⟩] }
    with ⟨fa, fb, h1, h2, -⟩ | ⟨-, e⟩
  · simp [h1, h2] at hn
  · rw [e]
    simp [State.perform, State.setPhase]

/-- The cases of R144 for a tick that can be presented: nothing to read, a short read, a value that one of the
filters rejects without a previous one, and two filtered values. -/
theorem tick_inputs {avail : Nat} {rd : List Byte} (s : State) (h : ¬ (4 ≤ avail ∧ 4 < rd.length)) :
    avail < 4 ∨ (4 ≤ avail ∧ rd.length < 4) ∨
    ∃ a b, 4 ≤ avail ∧ decodeFrame rd = some (a, b) ∧
      ((filterValue a s.sa.getLast? = none ∨ filterValue b s.sb.getLast? = none) ∨
        ∃ fa fb, filterValue a s.sa.getLast? = some fa ∧ filterValue b s.sb.getLast? = some fb) := by
  rcases tick_cases avail rd s with ⟨h1, -⟩ | ⟨h1, h2, -⟩ | ⟨a, b, h1, hd, -⟩ | h4
  · exact .inl h1
  · exact .inr (.inl ⟨h1, h2⟩)
  · refine .inr (.inr ⟨a, b, h1, hd, ?_⟩)
    rcases tickFilter_cases a b s with ⟨fa, fb, ha, hb, -⟩ | ⟨hn, -⟩
    · exact .inr ⟨fa, fb, ha, hb⟩
    · exact .inl hn
  · exact absurd h4 h

end Sys2Proof.Machine

namespace Sys2Proof

open Machine

/-- The instruction is one whole step of the loop: TICK, or FRAME. -/
def IsTick (i : Instr) : Prop := (∃ avail rd, i = .tick avail rd) ∨ ∃ a b, i = .frame a b

/-- TICK or FRAME, where it completes it is one tick that can be presented, the same from any state. -/
theorem IsTick.exec_eq {i : Instr} (hi : IsTick i) {s t : State} (h : exec i s = .next t) :
    ∃ avail rd, ¬ (4 ≤ avail ∧ 4 < rd.length) ∧ ∀ s', exec i s' = tick avail rd s' := by
  rcases hi with ⟨avail, rd, rfl⟩ | ⟨a, b, rfl⟩
  · have hp := (execTick_next h).1
    exact ⟨avail, rd, hp, fun s' => execTick_eq s' hp⟩
  · exact ⟨4, encodeFrame a b, by simp [encodeFrame_length], fun _ => rfl⟩

end Sys2Proof
end

section
/-! PROOFS. `PHASE` is read by no rule (spec/10_state.md R25): a tick hands its phase to its own trace entry and to
nothing else. -/

namespace Sys2Proof

open Machine

/-- Rendering adds to the record and does not look at it. -/
theorem Machine.renderSnapshot_setTrace {c : Bool} {s t : State} (h : renderSnapshot c s = .next t) :
    ∃ rest, ∀ tr, renderSnapshot c { s with trace := tr } = .next { t with trace := tr ++ rest } := by
  rcases renderSnapshot_cases h with ⟨hl, rfl⟩ | ⟨ra, rb, r, hl, e, ha, hb, hx, rfl⟩
  · refine ⟨[⟨s.phase, .resched⟩], fun tr => ?_⟩
    rw [renderSnapshot_skips c (s := { s with trace := tr }) hl]
    rfl
  · refine ⟨[⟨s.phase, .xcorr⟩, ⟨s.phase, .publish⟩, ⟨s.phase, .resched⟩], fun tr => ?_⟩
    rw [renderSnapshot_publishes c (s := { s with trace := tr }) hl e ha hb hx]
    simp [finishTick_eq, publishOp_eq, State.perform]

/-- A tick from another phase and another record ends in the same state, but for the record's beginning and the
tick's own entry. -/
theorem Machine.tick_setPhase_setTrace {avail : Nat} {rd : List Byte} {s t : State}
    (hp : ¬ (4 ≤ avail ∧ 4 < rd.length)) (h : tick avail rd s = .next t) :
    ∃ rest, ∀ q tr, tick avail rd { s with phase := q, trace := tr } =
      .next { t with trace := tr ++ ⟨q, .tick⟩ :: rest } := by
  rcases tick_inputs s hp with h1 | ⟨h1, h2⟩ | ⟨a, b, h1, hd, hn | ⟨fa, fb, ha, hb⟩⟩
  · rw [tick_noData rd s h1] at h
    cases h
    refine ⟨[⟨.waiting, .poll⟩, ⟨.waiting, .report⟩, ⟨.waiting, .resched⟩], fun q tr => ?_⟩
    rw [tick_noData rd _ h1]
    simp [earlyOut_eq, pollOp_eq, State.perform, State.setPhase]
  · rw [tick_shortRead s h1 h2] at h
    cases h
    refine ⟨[⟨.waiting, .poll⟩, ⟨.waiting, .read4⟩, ⟨.waiting, .report⟩, ⟨.waiting, .resched⟩], fun q tr => ?_⟩
    rw [tick_shortRead _ h1 h2]
    simp [earlyOut_eq, pollOp_eq, read4Op_eq, State.perform, State.setPhase]
  · rw [tick_rejects s h1 hd hn] at h
    cases h
    refine ⟨[⟨.waiting, .poll⟩, ⟨.waiting, .read4⟩, ⟨.decoding, .decode⟩, ⟨.filtering, .last⟩,
      ⟨.filtering, .last⟩, ⟨.filtering, .report⟩, ⟨.filtering, .resched⟩], fun q tr => ?_⟩
    rw [tick_rejects { s with phase := q, trace := tr } h1 hd hn]
    simp [earlyOut_eq]
  · rw [tick_accepts s h1 hd ha hb, appendBoth_setRecord] at h
    obtain ⟨rest, hrest⟩ := renderSnapshot_setTrace h
    refine ⟨[⟨.waiting, .poll⟩, ⟨.waiting, .read4⟩, ⟨.decoding, .decode⟩, ⟨.filtering, .last⟩,
      ⟨.filtering, .last⟩, ⟨.filtering, .filter⟩, ⟨.filtering, .filter⟩, ⟨.buffering, .append⟩,
      ⟨.rendering, .snapshot⟩] ++ rest, fun q tr => ?_⟩
    rw [tick_accepts { s with phase := q, trace := tr } h1 hd ha hb, appendBoth_setRecord, appendBoth_setRecord]
    have := hrest (tr ++ [⟨q, .tick⟩, ⟨.waiting, .poll⟩, ⟨.waiting, .read4⟩, ⟨.decoding, .decode⟩,
      ⟨.filtering, .last⟩, ⟨.filtering, .last⟩, ⟨.filtering, .filter⟩, ⟨.filtering, .filter⟩,
      ⟨.buffering, .append⟩, ⟨.rendering, .snapshot⟩])
    simpa using this

/-- Settles O48: the tick run again from its own phase gives the shape of its trace, and run from the other phase
the same end. -/
theorem phaseIsNotRead : Obligations.PhaseIsNotRead := by
  intro s t p q i hi h
  obtain ⟨avail, rd, hp, heq⟩ := IsTick.exec_eq hi h
  rw [heq] at h ⊢
  obtain ⟨rest, hrest⟩ := tick_setPhase_setTrace hp h
  have hown : t = { t with trace := s.trace ++ ⟨p, .tick⟩ :: rest } :=
    Host.Outcome.next.inj (h.symm.trans (hrest p s.trace))
  exact ⟨rest, congrArg State.trace hown, hrest q s.trace⟩

end Sys2Proof
end

section
/-! PROOFS. The access table (spec/10_state.md R42) as a relation between an instruction, the state it runs in and
the state it leaves, the observer's record aside. Every invariant of the state is read off it. -/

namespace Sys2Proof

open Machine

/-- The state without the observer's record: `calls`, `trace` and `ret`, which no operation reads. What speaks
of the other fields alone says the same of a state and of this. -/
def Machine.State.unrecorded (s : State) : State := { s with calls := [], trace := [], ret := .nothing }

namespace Machine

@[simp] theorem State.perform_unrecorded (op : Opc) (s : State) : (s.perform op).unrecorded = s.unrecorded := rfl
@[simp] theorem State.call_unrecorded (c : Call) (s : State) : (s.call c).unrecorded = s.unrecorded := rfl
@[simp] theorem State.answer_unrecorded (r : Result) (s : State) : (s.answer r).unrecorded = s.unrecorded := rfl
@[simp] theorem State.setPhase_unrecorded (p : Phase) (s : State) :
    (s.setPhase p).unrecorded = s.unrecorded.setPhase p := rfl
@[simp] theorem State.raise_unrecorded (k : ErrorKind) (s : State) :
    (s.raise k).unrecorded = s.unrecorded.raise k := rfl
@[simp] theorem appendBoth_unrecorded (fa fb : U16) (s : State) :
    (appendBoth fa fb s).unrecorded = appendBoth fa fb s.unrecorded := by
  unfold State.unrecorded appendBoth
  split <;> rfl

@[simp] theorem pollOp_unrecorded (n : Nat) (s : State) : (pollOp n s).unrecorded = s.unrecorded := rfl
@[simp] theorem read4Op_unrecorded (rd : List Byte) (s : State) : (read4Op rd s).unrecorded = s.unrecorded := rfl
@[simp] theorem publishOp_unrecorded (p : Payload) (s : State) : (publishOp p s).unrecorded = s.unrecorded := rfl
@[simp] theorem reportOp_unrecorded (k : ErrorKind) (s : State) : (reportOp k s).unrecorded = s.unrecorded := rfl
@[simp] theorem reschedOp_unrecorded (s : State) : (reschedOp s).unrecorded = s.unrecorded := rfl
@[simp] theorem finishTick_unrecorded (o : TickOutcome) (s : State) :
    (finishTick o s).unrecorded = s.unrecorded.setPhase .waiting := by simp [finishTick]
@[simp] theorem earlyOut_unrecorded (k : ErrorKind) (s : State) :
    (earlyOut k s).unrecorded = (s.unrecorded.raise k).setPhase .waiting := by simp [earlyOut]

@[simp] theorem State.setPhase_setPhase (p q : Phase) (s : State) : (s.setPhase p).setPhase q = s.setPhase q := rfl
@[simp] theorem State.raise_setPhase (k : ErrorKind) (p : Phase) (s : State) :
    (s.setPhase p).raise k = (s.raise k).setPhase p := rfl
@[simp] theorem State.raise_sourceNotReady (s : State) : s.raise .sourceNotReady = s := by
  simp [State.raise, faultMask]
@[simp] theorem State.raise_shortRead (s : State) : s.raise .shortRead = s := by
  simp [State.raise, faultMask]
@[simp] theorem appendBoth_setPhase (fa fb : U16) (p : Phase) (s : State) :
    appendBoth fa fb (s.setPhase p) = (appendBoth fa fb s).setPhase p := by
  unfold State.setPhase appendBoth
  split <;> rfl
/-- The record of a state at a phase may be any. -/
theorem State.unrecorded_setRecord (s : State) (p : Phase) (c : List Call) (tr : List TraceEntry) :
    ({ s with phase := p, calls := c, trace := tr } : State).unrecorded = s.unrecorded.setPhase p := rfl

end Machine

/-- What a completed tick may write, by its ending (R146): nothing but `PHASE`; `FAULT[0]`; the append of two
filtered values. -/
inductive TickWrites (s : State) : State → Prop
  | skips : TickWrites s (s.setPhase .waiting)
  | rejects : TickWrites s ((s.raise .prevUndefined).setPhase .waiting)
  | appends {a b fa fb : U16} (ha : filterValue a s.sa.getLast? = some fa)
      (hb : filterValue b s.sb.getLast? = some fb) : TickWrites s ((appendBoth fa fb s).setPhase .waiting)

/-- What an instruction may write, one constructor per entry of R42's write columns. An operation that writes
none of the elements, or that answers where it might have raised, is `nothing`. -/
inductive MayWrite (s : State) : Instr → State → Prop
  | nothing {i : Instr} : MayWrite s i s
  | reset : MayWrite s .reset (construct s)
  | append {fa fb : U16} : MayWrite s (.append fa fb) (appendBoth fa fb s)
  | tick {i : Instr} {x : State} (hi : IsTick i) (hx : TickWrites s x) : MayWrite s i x
  | decode {buf : List Byte} : MayWrite s (.decode buf) (s.raise .incompleteFrame)
  | filter {v : U16} {prev : Option U16} : MayWrite s (.filter v prev) (s.raise .prevUndefined)
  | xcorr {x y : List U16} : MayWrite s (.xcorr x y) (s.raise .engineMisuse)
  | poll : MayWrite s .poll s.drawn
  | read4 : MayWrite s .read4 s.drawn.consumed

/-- Rendering writes nothing but `PHASE`. -/
theorem Machine.renderSnapshot_unrecorded {c : Bool} {s t : State} (h : renderSnapshot c s = .next t) :
    t.unrecorded = s.unrecorded.setPhase .waiting := by
  rcases renderSnapshot_cases h with ⟨-, rfl⟩ | ⟨ra, rb, r, -, -, -, -, -, rfl⟩
  · simp
  · simp

/-- Each ending of a tick writes what `TickWrites` lists for it. -/
theorem Machine.tick_writes {avail : Nat} {rd : List Byte} {s t : State}
    (hp : ¬ (4 ≤ avail ∧ 4 < rd.length)) (h : tick avail rd s = .next t) :
    TickWrites s.unrecorded t.unrecorded := by
  rcases tick_inputs s hp with h1 | ⟨h1, h2⟩ | ⟨a, b, h1, hd, hn | ⟨fa, fb, ha, hb⟩⟩
  · rw [tick_noData rd s h1] at h
    cases h
    simpa using TickWrites.skips
  · rw [tick_shortRead s h1 h2] at h
    cases h
    simpa using TickWrites.skips
  · rw [tick_rejects s h1 hd hn] at h
    cases h
    simpa [State.unrecorded_setRecord] using TickWrites.rejects
  · rw [tick_accepts s h1 hd ha hb] at h
    have ht := renderSnapshot_unrecorded h
    rw [appendBoth_unrecorded, State.unrecorded_setRecord s] at ht
    simpa [ht] using TickWrites.appends (s := s.unrecorded) ha hb

/-- TICK or FRAME, it writes what a tick may write. -/
theorem IsTick.writes {i : Instr} (hi : IsTick i) {s t : State} (h : exec i s = .next t) :
    TickWrites s.unrecorded t.unrecorded := by
  obtain ⟨avail, rd, hp, heq⟩ := hi.exec_eq h
  exact tick_writes hp ((heq s).symm.trans h)

/-- The access table holds of every instruction that completes (R42). -/
theorem Machine.exec_writes {i : Instr} {s t : State} (h : exec i s = .next t) :
    MayWrite s.unrecorded i t.unrecorded := by
  cases i with
  | frame a b => exact .tick (.inr ⟨a, b, rfl⟩) (IsTick.writes (.inr ⟨a, b, rfl⟩) h)
  | tick avail rd => exact .tick (.inl ⟨avail, rd, rfl⟩) (IsTick.writes (.inl ⟨avail, rd, rfl⟩) h)
  | reset => cases h; exact .reset
  | poll => cases h; exact .poll
  | read4 => cases h; exact .read4
  | last | snapshot | publish | report | resched => cases h; exact .nothing
  | append fa fb =>
    cases h
    simpa using MayWrite.append
  | decode buf =>
    simp only [exec, execDecode] at h
    split at h
    · cases h
    · split at h <;> cases h
      · exact .nothing
      · exact .decode
  | filter v prev =>
    simp only [exec, execFilter] at h
    split at h <;> cases h
    · exact .nothing
    · exact .filter
  | xcorr x y =>
    simp only [exec, execXcorr] at h
    split at h
    · cases h
    · split at h <;> cases h
      · exact .nothing
      · exact .xcorr

end Sys2Proof
end

section
/-! PROOFS. The access table of spec/10_state.md R42, and the stickiness of `FAULT` (R26). -/

namespace Sys2Proof

open Machine

/-- A tick carries the source's answers and does not touch the source (log entry 18). -/
theorem TickWrites.source_eq {s x : State} (h : TickWrites s x) : x.source = s.source := by
  cases h <;> simp

theorem TickWrites.cmds_eq {s x : State} (h : TickWrites s x) : x.cmds = s.cmds := by
  cases h <;> simp

/-- What is no TICK and no FRAME, as the access table's statement puts it, is no tick. -/
theorem not_isTick {i : Instr} (ht : ∀ n rd, i ≠ .tick n rd) (hf : ∀ a b, i ≠ .frame a b) : ¬ IsTick i := by
  rintro (⟨avail, rd, e⟩ | ⟨a, b, e⟩)
  · exact ht avail rd e
  · exact hf a b e

/-- SA, SB and `COUNT` are written by RESET, APPEND and a tick. -/
theorem MayWrite.stores_eq {i : Instr} {s x : State} (h : MayWrite s i x) (hr : i ≠ .reset) (ht : ¬ IsTick i)
    (ha : ∀ fa fb, i ≠ .append fa fb) : x.sa = s.sa ∧ x.sb = s.sb ∧ x.count = s.count := by
  cases h with
  | reset => exact absurd rfl hr
  | tick hi => exact absurd hi ht
  | append => exact absurd rfl (ha _ _)
  | nothing | decode | filter | xcorr | poll | read4 => exact ⟨rfl, rfl, rfl⟩

/-- `PHASE` is written by RESET and a tick. -/
theorem MayWrite.phase_eq {i : Instr} {s x : State} (h : MayWrite s i x) (hr : i ≠ .reset) (ht : ¬ IsTick i) :
    x.phase = s.phase := by
  cases h with
  | reset => exact absurd rfl hr
  | tick hi => exact absurd hi ht
  | append => exact appendBoth_phase _ _ s
  | nothing | decode | filter | xcorr | poll | read4 => rfl

/-- `FAULT` is written by RESET, a tick, and the three operations that raise. -/
theorem MayWrite.fault_eq {i : Instr} {s x : State} (h : MayWrite s i x) (hr : i ≠ .reset) (ht : ¬ IsTick i)
    (hd : ∀ buf, i ≠ .decode buf) (hf : ∀ v prev, i ≠ .filter v prev) (hx : ∀ x y, i ≠ .xcorr x y) :
    x.fault = s.fault := by
  cases h with
  | reset => exact absurd rfl hr
  | tick hi => exact absurd hi ht
  | decode => exact absurd rfl (hd _)
  | filter => exact absurd rfl (hf _ _)
  | xcorr => exact absurd rfl (hx _ _)
  | append => exact appendBoth_fault _ _ s
  | nothing | poll | read4 => rfl

/-- The source is written by READ4. -/
theorem MayWrite.source_eq {i : Instr} {s x : State} (h : MayWrite s i x) (hr : i ≠ .read4) :
    x.source = s.source := by
  cases h with
  | read4 => exact absurd rfl hr
  | tick _ hx => exact hx.source_eq
  | append => exact appendBoth_source _ _ s
  | nothing | reset | decode | filter | xcorr | poll => rfl

/-- The command port is written by no instruction. -/
theorem MayWrite.cmds_eq {i : Instr} {s x : State} (h : MayWrite s i x) : x.cmds = s.cmds := by
  cases h with
  | tick _ hx => exact hx.cmds_eq
  | append => exact appendBoth_cmds _ _ s
  | nothing | reset | decode | filter | xcorr | poll | read4 => rfl

/-- Settles O50, a column of R42 at a time. -/
theorem onlyTheListedOperationsWrite : Obligations.OnlyTheListedOperationsWrite := by
  intro s t i h
  have hw := exec_writes h
  refine ⟨?_, ?_, ?_, fun hr => hw.source_eq hr, hw.cmds_eq⟩
  · rintro ⟨hr, ht, hf, ha⟩
    exact hw.stores_eq hr (not_isTick ht hf) ha
  · rintro ⟨hr, ht, hf⟩
    exact hw.phase_eq hr (not_isTick ht hf)
  · rintro ⟨hr, ht, hf, hd, hv, hx⟩
    exact hw.fault_eq hr (not_isTick ht hf) hd hv hx

/-- A bit of `FAULT` stays set when more bits are set. -/
theorem fault_and_or_self (f m : BitVec 3) : f &&& (f ||| m) = f := by
  ext i hi
  simp +contextual

/-- A tick clears no `FAULT` bit. -/
theorem TickWrites.fault_sticky {s x : State} (h : TickWrites s x) : s.fault &&& x.fault = s.fault := by
  cases h with
  | skips => exact BitVec.and_self
  | rejects => exact fault_and_or_self _ _
  | appends => simp

/-- No instruction but RESET clears a `FAULT` bit: the rest leave the register or raise an error kind. -/
theorem MayWrite.fault_sticky {i : Instr} {s x : State} (h : MayWrite s i x) (hr : i ≠ .reset) :
    s.fault &&& x.fault = s.fault := by
  cases h with
  | reset => exact absurd rfl hr
  | tick _ hx => exact hx.fault_sticky
  | decode | filter | xcorr => exact fault_and_or_self _ _
  | append => simp
  | nothing | poll | read4 => exact BitVec.and_self

/-- Settles O51: read off the access table. -/
theorem faultBitsAreSticky : Obligations.FaultBitsAreSticky :=
  fun _ _ _ h hr => (exec_writes h).fault_sticky hr

end Sys2Proof
end

section
/-! PROOFS. The structure of the state, I1 to I4 of spec/10_state.md R27: it is there after construction reset, and
every step keeps it. -/

namespace Sys2Proof

open Machine

/-- Construction makes the structure of R39 from any state. -/
theorem construct_sound (s : State) : Sound (construct s) := ⟨rfl, .inr rfl, .inl rfl⟩

/-- A push adds one to both lengths and to `COUNT`; a wrap-clear makes all three 0. -/
theorem Sound.appendBoth {s : State} (h : Sound s) (fa fb : U16) : Sound (appendBoth fa fb s) := by
  obtain ⟨hsame, hlen, hphase⟩ := h
  rcases appendBoth_cases fa fb s with ⟨-, e⟩ | ⟨hroom, e⟩
  · rw [e]
    exact ⟨rfl, .inl rfl, hphase⟩
  · rw [e]
    refine ⟨by simp [hsame], ?_, hphase⟩
    simp only [pushBoth_sa, pushBoth_count, List.length_append, List.length_singleton]
    omega

/-- The end of a tick is one of the two phases between ticks. -/
theorem Sound.setPhase_waiting {s : State} (h : Sound s) : Sound (s.setPhase .waiting) := by
  obtain ⟨hsame, hlen, -⟩ := h
  exact ⟨hsame, hlen, .inr rfl⟩

/-- Every ending of a tick keeps the structure. -/
theorem TickWrites.sound {s x : State} (h : TickWrites s x) (hs : Sound s) : Sound x := by
  cases h with
  | skips => exact hs.setPhase_waiting
  | rejects => exact Sound.setPhase_waiting (s := s.raise .prevUndefined) hs
  | appends => exact (hs.appendBoth _ _).setPhase_waiting

/-- Every entry of the access table keeps the structure. -/
theorem MayWrite.sound {i : Instr} {s x : State} (h : MayWrite s i x) (hs : Sound s) : Sound x := by
  cases h with
  | reset => exact construct_sound s
  | append => exact hs.appendBoth _ _
  | tick _ hx => exact hx.sound hs
  | nothing | decode | filter | xcorr | poll | read4 => exact hs

/-- Every instruction that completes keeps the structure. -/
theorem exec_sound {i : Instr} {s t : State} (hs : Sound s) (h : exec i s = .next t) : Sound t :=
  (exec_writes h).sound hs

/-- Drawing the source's answers keeps the structure. -/
theorem Sound.afterSource {s : State} (h : Sound s) : Sound (afterSource s) := by
  rw [afterSource_eq]
  exact h

/-- Settles O57: whatever the step runs, it runs it from a sound state. -/
theorem stepKeepsSound : Obligations.StepKeepsSound := by
  intro s t hs h
  rcases step_cases h with ⟨w, rest, i, -, -, hexec⟩ | ⟨-, hexec⟩
  · exact exec_sound (s := { s with cmds := rest }) hs hexec
  · exact exec_sound hs.afterSource hexec

/-- Settles O58: construction reset makes the structure. -/
theorem resetIsSound : Obligations.ResetIsSound := construct_sound State.reset

/-- On a sound state `SEEDED` is 0 or 1 (I3). -/
theorem Sound.seeded_eq {s : State} (h : Sound s) : s.seeded = 0 ∨ s.seeded = 1 := by
  obtain ⟨-, hlen, -⟩ := h
  unfold State.seeded State.len
  omega

@[simp] theorem Machine.wrapClear_seeded (s : State) : (wrapClear s).seeded = 0 := rfl

/-- A push that counts one leaves `SEEDED` as it is. -/
theorem Machine.pushBoth_seeded (fa fb : U16) (s : State) (h : s.count.val + 1 < 1001) :
    (pushBoth fa fb ⟨s.count.val + 1, h⟩ s).seeded = s.seeded := by
  simp [State.seeded, State.len]

/-- An append keeps the seed, or drops it by a wrap-clear. -/
theorem Sound.appendBoth_seeded {s : State} (h : Sound s) (fa fb : U16) :
    (Machine.appendBoth fa fb s).seeded ≤ s.seeded := by
  rcases appendBoth_cases fa fb s with ⟨-, e⟩ | ⟨hroom, e⟩
  · rw [e, wrapClear_seeded]
    have := h.seeded_eq
    omega
  · rw [e, pushBoth_seeded]

/-- No ending of a tick brings the seed back. -/
theorem TickWrites.seeded_le {s x : State} (h : TickWrites s x) (hs : Sound s) : x.seeded ≤ s.seeded := by
  cases h with
  | skips | rejects => exact le_refl s.seeded
  | appends => exact hs.appendBoth_seeded _ _

/-- No entry of the access table but that of RESET brings the seed back. -/
theorem MayWrite.seeded_le {i : Instr} {s x : State} (h : MayWrite s i x) (hs : Sound s) (hr : i ≠ .reset) :
    x.seeded ≤ s.seeded := by
  cases h with
  | reset => exact absurd rfl hr
  | append => exact hs.appendBoth_seeded _ _
  | tick _ hx => exact hx.seeded_le hs
  | nothing | decode | filter | xcorr | poll | read4 => exact le_refl s.seeded

/-- Settles O52: `SEEDED` does not rise, and what is left is sound. -/
theorem seedReturnsOnlyByReset : Obligations.SeedReturnsOnlyByReset :=
  fun _ _ _ hs h hr => ⟨(exec_writes h).seeded_le hs hr, (exec_sound hs h).seeded_eq⟩

end Sys2Proof
end

section
/-! PROOFS. What PM-core itself keeps, I5 and I6 of spec/10_state.md R27: the elements of the series are in the range
of the filter (spec/41_outlier_filter.md R97) and no part is misused (spec/44_acquisition_tick.md R147). -/

namespace Sys2Proof

open Machine

/-- A filtered value is in range where the series it is clamped to is (R97). -/
theorem Machine.filterValue_le {v f : U16} {l : List U16} (h : filterValue v l.getLast? = some f)
    (hl : ∀ w ∈ l, w.toNat ≤ 6000) : f.toNat ≤ 6000 := by
  rcases filterValue_cases h with ⟨hv, rfl⟩ | ⟨-, hlast⟩
  · exact hv
  · exact hl f (List.mem_of_getLast? hlast)

/-- A series in range stays in range when a value in range is pushed. -/
theorem forall_mem_push {l : List U16} {f : U16} (hl : ∀ w ∈ l, w.toNat ≤ 6000) (hf : f.toNat ≤ 6000) :
    ∀ w ∈ l ++ [f], w.toNat ≤ 6000 :=
  List.forall_mem_append.2 ⟨hl, List.forall_mem_singleton.2 hf⟩

/-- An append of values in range keeps I1 to I6. -/
theorem Reachable.appendBoth {s : State} (h : Reachable s) {fa fb : U16} (ha : fa.toNat ≤ 6000)
    (hb : fb.toNat ≤ 6000) : Reachable (appendBoth fa fb s) := by
  obtain ⟨hsound, hsa, hsb, hfault, hcmds⟩ := h
  have hs := hsound.appendBoth fa fb
  rcases appendBoth_cases fa fb s with ⟨-, e⟩ | ⟨hroom, e⟩ <;> rw [e] at hs ⊢
  · exact ⟨hs, nofun, nofun, hfault, hcmds⟩
  · exact ⟨hs, forall_mem_push hsa ha, forall_mem_push hsb hb, hfault, hcmds⟩

/-- `PrevUndefined` sets neither `FAULT[1]` nor `FAULT[2]`. -/
theorem Reachable.raise_prevUndefined {s : State} (h : Reachable s) : Reachable (s.raise .prevUndefined) := by
  obtain ⟨hs, hsa, hsb, hfault, hcmds⟩ := h
  refine ⟨hs, hsa, hsb, ?_, hcmds⟩
  rw [State.raise_fault, BitVec.and_or_distrib_right, hfault]
  rfl

theorem Reachable.setPhase_waiting {s : State} (h : Reachable s) : Reachable (s.setPhase .waiting) := by
  obtain ⟨hs, hrest⟩ := h
  exact ⟨hs.setPhase_waiting, hrest⟩

/-- A tick keeps I1 to I6. -/
theorem TickWrites.reachable {s x : State} (h : TickWrites s x) (hs : Reachable s) : Reachable x := by
  cases h with
  | skips => exact hs.setPhase_waiting
  | rejects => exact hs.raise_prevUndefined.setPhase_waiting
  | appends ha hb =>
    have ⟨_, hsa, hsb, _⟩ := hs
    exact (hs.appendBoth (filterValue_le ha hsa) (filterValue_le hb hsb)).setPhase_waiting

/-- Construction meets I1 to I6; the stimulus lines that wait stay. -/
theorem construct_reachable {s : State} (hcmds : ∀ w ∈ s.cmds, IsStimulus w) : Reachable (construct s) := by
  have hseed : ∀ v ∈ [params.seed], v.toNat ≤ 6000 := by simp
  exact ⟨construct_sound s, hseed, hseed, by simp, hcmds⟩

/-- A stimulus line is decoded as RESET or as a tick (R78). -/
theorem IsStimulus.decode_eq {w : OpWord} (hw : IsStimulus w) {i : Instr} (h : decode (.op w) = .ok i) :
    i = .reset ∨ IsTick i := by
  obtain ⟨opc, args⟩ := w
  rcases hw with e | e <;> cases e <;> cases h
  · exact .inl rfl
  · exact .inr (.inl ⟨_, _, rfl⟩)

/-- RESET and the tick keep I1 to I6. -/
theorem exec_reachable {i : Instr} {s t : State} (hi : i = .reset ∨ IsTick i) (hs : Reachable s)
    (h : exec i s = .next t) : Reachable t := by
  rcases hi with rfl | hi
  · cases h
    have ⟨_, _, _, _, hcmds⟩ := hs
    exact construct_reachable hcmds
  · exact (hi.writes h).reachable hs

theorem Reachable.afterSource {s : State} (h : Reachable s) : Reachable (afterSource s) := by
  rw [afterSource_eq]
  exact h

/-- Settles O59: the step runs a stimulus line, which has left the port, or the block's own tick. -/
theorem stepKeepsReachable : Obligations.StepKeepsReachable := by
  intro s t hs h
  rcases step_cases h with ⟨w, rest, i, hport, hdec, hexec⟩ | ⟨-, hexec⟩
  · obtain ⟨hsound, hsa, hsb, hfault, hcmds⟩ := hs
    rw [hport, List.forall_mem_cons] at hcmds
    obtain ⟨hw, hrest⟩ := hcmds
    exact exec_reachable (s := { s with cmds := rest }) (hw.decode_eq hdec) ⟨hsound, hsa, hsb, hfault, hrest⟩ hexec
  · exact exec_reachable (.inr (.inl ⟨_, _, rfl⟩)) hs.afterSource hexec

/-- Settles O60: nothing waits on the port after construction reset. -/
theorem resetIsReachable : Obligations.ResetIsReachable := construct_reachable (s := State.reset) nofun

end Sys2Proof
end

section
/-! PROOFS. The reset state (spec/10_state.md R39), and the tick that the block runs left to itself (R38). -/

namespace Sys2Proof

open Machine

namespace Machine

/-- With nothing on the command port the step is the block's own tick. -/
theorem step_of_no_cmds {s : State} (h : s.cmds = []) : step s = exec (ownTick s) (afterSource s) := by
  unfold step fetch
  rw [h]

theorem ownTick_free {s : State} (h : s.source = .free) :
    ownTick s = .tick (Config.srcAvail s.draws) ((Config.srcBytes s.draws).take 4) := by
  simp [ownTick, srcAvail, srcBytes, h]

theorem ownTick_queue {s : State} {q : List Byte} (h : s.source = .queue q) :
    ownTick s = .tick q.length (q.take 4) := by
  simp [ownTick, srcAvail, srcBytes, h]

/-- The free source loses nothing, whether it is read or not. -/
theorem afterSource_free {s : State} (h : s.source = .free) : afterSource s = s.drawn := by
  unfold afterSource
  split
  · rfl
  · simp [State.consumed, srcRemainder, h, State.drawn]

theorem afterSource_queue_short {s : State} {q : List Byte} (h : s.source = .queue q) (hq : q.length < 4) :
    afterSource s = s.drawn := by
  simp [afterSource, srcAvail, h, hq]

theorem afterSource_queue {s : State} {q : List Byte} (h : s.source = .queue q) (hq : 4 ≤ q.length) :
    afterSource s = { s with draws := s.draws + 1, source := .queue (q.drop 4) } := by
  simp [afterSource, srcAvail, h, Nat.not_lt.2 hq, State.consumed, State.drawn, srcRemainder]

end Machine

/-- Settles O8, source by source. -/
theorem stepRunsOwnTick : Obligations.StepRunsOwnTick := by
  intro s hcmds
  rw [step_of_no_cmds hcmds]
  refine ⟨fun h => ?_, fun q h hq => ?_, fun q h hq => ?_⟩
  · rw [ownTick_free h, afterSource_free h]
    rfl
  · rw [ownTick_queue h, afterSource_queue_short h hq, List.take_of_length_le (Nat.le_of_lt hq)]
    rfl
  · rw [ownTick_queue h, afterSource_queue h hq]

/-- Settles O9: the values of R39, read off the reset state. -/
theorem resetStateValues : Obligations.ResetStateValues := ⟨rfl, rfl, rfl, rfl, rfl, rfl, rfl⟩

end Sys2Proof
end

section
/-! PROOFS. The byte order of a frame (spec/20_memory.md R50, R51): the assembled word as a number, and each channel
as one half of it. -/

namespace Sys2Proof

/-- A byte laid over a word whose set bits all lie below it adds its value at that place. -/
theorem toNat_or_byte_shiftLeft {lo : U32} {n k : Nat} (b : Byte) (hlo : lo.toNat = n) (hn : n < 2 ^ k)
    (hk : k + 8 ≤ 32) : (lo ||| b.setWidth 32 <<< k).toNat = n + 2 ^ k * b.toNat := by
  subst hlo
  have hfits : 2 ^ k * b.toNat < 2 ^ 32 :=
    calc 2 ^ k * b.toNat < 2 ^ k * 2 ^ 8 := Nat.mul_lt_mul_of_pos_left b.isLt (Nat.two_pow_pos k)
      _ = 2 ^ (k + 8) := (Nat.pow_add 2 k 8).symm
      _ ≤ 2 ^ 32 := Nat.pow_le_pow_right (by decide) hk
  have hbyte : (b.setWidth 32 <<< k).toNat = 2 ^ k * b.toNat := by
    rw [BitVec.toNat_shiftLeft, BitVec.toNat_setWidth_of_le (by decide), Nat.shiftLeft_eq, Nat.mul_comm,
      Nat.mod_eq_of_lt hfits]
  rw [BitVec.toNat_or, hbyte, Nat.or_comm, ← Nat.two_pow_add_eq_or_of_lt hn, Nat.add_comm]

/-- R50, R66: the first byte is the lowest, and each of the others is laid over the ones before it. -/
theorem assembleWord_toNat (b0 b1 b2 b3 : Byte) :
    (assembleWord b0 b1 b2 b3).toNat =
      b0.toNat + 256 * b1.toNat + 65536 * b2.toNat + 16777216 * b3.toNat := by
  have h0 : (b0.setWidth 32).toNat = b0.toNat := BitVec.toNat_setWidth_of_le (by decide)
  have h1 := toNat_or_byte_shiftLeft (k := 8) b1 h0 (by omega) (by decide)
  have h2 := toNat_or_byte_shiftLeft (k := 16) b2 h1 (by omega) (by decide)
  exact toNat_or_byte_shiftLeft (k := 24) b3 h2 (by omega) (by decide)

/-- R67: channel A is the upper half of the word. -/
theorem channelA_toNat (v : U32) : (channelA v).toNat = v.toNat / 65536 := by
  have hhalf : v.toNat / 65536 < 65536 := Nat.div_lt_of_lt_mul v.isLt
  simp [channelA, Nat.and_two_pow_sub_one_eq_mod _ 16, Nat.shiftRight_eq_div_pow, Nat.mod_eq_of_lt hhalf]

/-- R67: channel B is the lower half of the word. -/
theorem channelB_toNat (v : U32) : (channelB v).toNat = v.toNat % 65536 := by
  simp [channelB, Nat.and_two_pow_sub_one_eq_mod _ 16]

/-- Settles O3: the word as a number, and its quotient and remainder by 2^16. -/
theorem frameIsLittleEndian : Obligations.FrameIsLittleEndian := by
  intro b0 b1 b2 b3
  have hword := assembleWord_toNat b0 b1 b2 b3
  refine ⟨hword, _, _, rfl, ?_, ?_⟩
  · rw [channelA_toNat, hword]
    omega
  · rw [channelB_toNat, hword]
    omega

end Sys2Proof
end

section
/-! PROOFS. The byte queue of decision D2 (spec/20_memory.md R55, R64): a tick over it reads nothing or a frame. -/

namespace Sys2Proof

open Machine

namespace Machine

/-- Where rendering ends, it ends the tick with one of three outcomes (R146). -/
theorem renderSnapshot_ret {c : Bool} {s t : State} (h : renderSnapshot c s = .next t) :
    ∃ o ∈ [TickOutcome.published, .appended, .cleared], t.ret = .outcome o := by
  rcases renderSnapshot_cases h with ⟨-, rfl⟩ | ⟨ra, rb, r, -, -, -, -, -, rfl⟩
  · exact ⟨_, by cases c <;> simp, rfl⟩
  · exact ⟨.published, by simp, rfl⟩

/-- A tick that reads a whole frame ends by its values, not by what the source lacked (R146, R160). -/
theorem tick_ret_of_frame {avail : Nat} {rd : List Byte} {s t : State} (h : 4 ≤ avail) (hl : rd.length = 4)
    (ht : tick avail rd s = .next t) :
    ∃ o ∈ [TickOutcome.prevUndefined, .published, .appended, .cleared], t.ret = .outcome o := by
  rcases tick_inputs s (by omega : ¬ (4 ≤ avail ∧ 4 < rd.length)) with
    h1 | ⟨-, h2⟩ | ⟨a, b, -, hd, hn | ⟨fa, fb, ha, hb⟩⟩
  · omega
  · omega
  · rw [tick_rejects s h hd hn] at ht
    cases ht
    exact ⟨.prevUndefined, by simp, rfl⟩
  · rw [tick_accepts s h hd ha hb] at ht
    obtain ⟨o, ho, hret⟩ := renderSnapshot_ret ht
    exact ⟨o, List.mem_cons_of_mem _ ho, hret⟩

end Machine

/-- The step over a queue too short for a frame (R156). -/
theorem step_queue_short {s t : State} {q : List Byte} (hcmds : s.cmds = []) (hsrc : s.source = .queue q)
    (hq : q.length < 4) (h : step s = .next t) :
    t.source = .queue q ∧ t.ret = .outcome .sourceNotReady := by
  rw [step_of_no_cmds hcmds, ownTick_queue hsrc, afterSource_queue_short hsrc hq] at h
  obtain ⟨-, htick⟩ := execTick_next h
  rw [tick_noData _ _ hq, earlyOut_eq] at htick
  cases htick
  exact ⟨hsrc, rfl⟩

/-- The step over a queue that holds a frame: the queue gives up 4 bytes to the tick, which does not touch what is
left. -/
theorem step_queue_frame {s t : State} {q : List Byte} (hcmds : s.cmds = []) (hsrc : s.source = .queue q)
    (hq : 4 ≤ q.length) (h : step s = .next t) :
    t.source = .queue (q.drop 4) ∧
      ∃ o ∈ [TickOutcome.prevUndefined, .published, .appended, .cleared], t.ret = .outcome o := by
  rw [step_of_no_cmds hcmds, ownTick_queue hsrc, afterSource_queue hsrc hq] at h
  refine ⟨(exec_writes h).source_eq nofun, tick_ret_of_frame hq ?_ (execTick_next h).2⟩
  rw [List.length_take, Nat.min_eq_left hq]

/-- Settles O56: the queue is too short for a frame, or holds one. -/
theorem queueIsReadFourAtATime : Obligations.QueueIsReadFourAtATime := by
  intro s t q hcmds hsrc h
  rcases Nat.lt_or_ge q.length 4 with hq | hq
  · obtain ⟨hsource, hret⟩ := step_queue_short hcmds hsrc hq h
    exact ⟨fun _ => ⟨hsource, hret⟩, fun _ => by omega, by simp [hret]⟩
  · obtain ⟨hsource, o, ho, hret⟩ := step_queue_frame hcmds hsrc hq h
    refine ⟨fun _ => by omega, fun _ => ⟨hsource, ?_⟩, ?_⟩ <;>
    · intro e
      cases hret.symm.trans e
      exact absurd ho (by decide)

end Sys2Proof
end

section
/-! PROOFS. The decoder and the encoder (spec/30_encoding.md R65 to R70, R76): a frame as its two channel values, both
ways, and an operation word as its code. -/

namespace Sys2Proof

/-- The low byte of a channel value as a number (R68). -/
theorem lowByte_toNat (v : U16) : ((v &&& 0xFF#16).setWidth 8 : Byte).toNat = v.toNat % 256 := by
  simp [Nat.and_two_pow_sub_one_eq_mod _ 8]

/-- The high byte of a channel value as a number (R68). -/
theorem highByte_toNat (v : U16) : (((v >>> 8) &&& 0xFF#16).setWidth 8 : Byte).toNat = v.toNat / 256 := by
  have hbyte : v.toNat / 256 < 256 := Nat.div_lt_of_lt_mul v.isLt
  simp [Nat.and_two_pow_sub_one_eq_mod _ 8, Nat.shiftRight_eq_div_pow, Nat.mod_eq_of_lt hbyte]

/-- First half of R87: each channel value is put together again from its two bytes. -/
theorem decodeFrame_encodeFrame (a b : U16) : decodeFrame (encodeFrame a b) = some (a, b) := by
  obtain ⟨-, a', b', hd, ha, hb⟩ := frameIsLittleEndian ((b &&& 0xFF#16).setWidth 8)
    (((b >>> 8) &&& 0xFF#16).setWidth 8) ((a &&& 0xFF#16).setWidth 8) (((a >>> 8) &&& 0xFF#16).setWidth 8)
  rw [lowByte_toNat, highByte_toNat, Nat.mod_add_div] at ha hb
  rw [BitVec.eq_of_toNat_eq ha, BitVec.eq_of_toNat_eq hb] at hd
  exact hd

/-- Second half of R87: the bytes of a frame are the encoding of its channel values. -/
theorem encodeFrame_of_decodeFrame {bytes : List Byte} {a b : U16} (h : decodeFrame bytes = some (a, b)) :
    encodeFrame a b = bytes := by
  match bytes, decodeFrame_length h with
  | [b0, b1, b2, b3], _ =>
    obtain ⟨-, a', b', hd, ha, hb⟩ := frameIsLittleEndian b0 b1 b2 b3
    cases h.symm.trans hd
    have h0 := b0.isLt
    have h2 := b2.isLt
    have hb0 : (b &&& 0xFF#16).setWidth 8 = b0 := BitVec.eq_of_toNat_eq (by rw [lowByte_toNat]; omega)
    have hb1 : ((b >>> 8) &&& 0xFF#16).setWidth 8 = b1 := BitVec.eq_of_toNat_eq (by rw [highByte_toNat]; omega)
    have ha2 : (a &&& 0xFF#16).setWidth 8 = b2 := BitVec.eq_of_toNat_eq (by rw [lowByte_toNat]; omega)
    have ha3 : ((a >>> 8) &&& 0xFF#16).setWidth 8 = b3 := BitVec.eq_of_toNat_eq (by rw [highByte_toNat]; omega)
    rw [encodeFrame, hb0, hb1, ha2, ha3]

/-- A frame is decoded as the FRAME of its channel values, and nothing else is. -/
theorem decode_frame_eq_ok {bytes : List Byte} {i : Instr} :
    decode (.frame bytes) = .ok i ↔ ∃ a b, decodeFrame bytes = some (a, b) ∧ i = .frame a b := by
  cases hd : decodeFrame bytes with
  | some p =>
    obtain ⟨a, b⟩ := p
    simp [decode, hd, eq_comm]
  | none =>
    simp only [decode, hd]
    split <;> simp

/-- An operation word is decoded by its code. -/
theorem decode_op {w : OpWord} {o : Opc} (h : opcOf w.opc = some o) :
    decode (.op w) = .ok (withOperands o w.args) := by
  simp only [decode, h]

/-- A word with no operation of its code is rejected by name (R76). -/
theorem decode_op_reserved {w : OpWord} (h : opcOf w.opc = none) :
    decode (.op w) = .error (.reservedOpc w.opc) := by
  simp only [decode, h]

/-- The reserved codes are 0xD to 0xF (R76). -/
theorem opcOf_eq_none : ∀ {c : BitVec 4}, opcOf c = none ↔ 13 ≤ c.toNat := by decide

/-- The decoder reads an operation from its own code only (R70). -/
theorem code_of_opcOf : ∀ {c : BitVec 4}, ∀ o ∈ opcOf c, o.code = c := by decide

/-- Settles O2: FRAME by R87; the code of an operation is a literal, on which the decoder computes. -/
theorem everyInstructionRoundTrips : Obligations.EveryInstructionRoundTrips := by
  intro i
  cases i with
  | frame a b => exact decode_frame_eq_ok.2 ⟨a, b, decodeFrame_encodeFrame a b, rfl⟩
  | reset | tick | poll | read4 | decode | filter | append | last | snapshot | xcorr | publish | report
  | resched => rfl

/-- Settles O4: the words are closed, and the decoder computes. -/
theorem wordsFromTheTableDecode : Obligations.WordsFromTheTableDecode := by
  unfold Obligations.WordsFromTheTableDecode
  decide

end Sys2Proof
end

section
/-! PROOFS. What a step runs (log entry 3): the word that stands first on the command port, or the frame that waits at
a queueing source, which is the tick on its bytes (spec/30_encoding.md R76, R79). -/

namespace Sys2Proof

open Machine

/-- The step over a word on the port that decodes runs it, with the word gone from the port. -/
theorem Machine.step_of_decode_ok {s : State} {w : OpWord} {rest : List OpWord} {i : Instr}
    (hcmds : s.cmds = w :: rest) (hd : decode (.op w) = .ok i) : step s = exec i { s with cmds := rest } := by
  simp only [step, fetch, hcmds, hd]

/-- The step over a word on the port that does not decode is refused. -/
theorem Machine.step_of_decode_error {s : State} {w : OpWord} {rest : List OpWord} {e : DecodeError}
    (hcmds : s.cmds = w :: rest) (hd : decode (.op w) = .error e) : step s = .refused (refusalOf e) := by
  simp only [step, fetch, hcmds, hd]

/-- Settles O6: the case of a word that decodes, which is the rule of the port. -/
theorem stepRunsPresentedCommand : Obligations.StepRunsPresentedCommand :=
  fun _ _ _ _ hcmds hd => step_of_decode_ok hcmds hd

/-- Settles O5: a code has an operation, whose code it then is, or it is reserved. -/
theorem reservedCodesRefused : Obligations.ReservedCodesRefused := by
  refine ⟨fun c w => ?_, fun s w rest hcmds hw =>
    step_of_decode_error hcmds (decode_op_reserved (opcOf_eq_none.2 hw))⟩
  rw [← Nat.not_le, ← opcOf_eq_none]
  cases ho : opcOf c with
  | none => simp [decode_op_reserved (w := ⟨c, w⟩) ho]
  | some o =>
    have hd : decode (.op ⟨c, w⟩) = .ok (withOperands o w) := decode_op ho
    exact ⟨by simp [hd], fun _ => ⟨o, code_of_opcOf o ho, hd⟩⟩

/-- Settles O41: the bytes of a frame are 4, a read that TICK does not refuse. -/
theorem frameIsTickOnItsBytes : Obligations.FrameIsTickOnItsBytes :=
  fun s a b => (execTick_eq (avail := 4) (rd := encodeFrame a b) s (by simp [encodeFrame_length])).symm

/-- Settles O7: the block's own tick reads the queue whole, and its bytes are those of the FRAME. -/
theorem stepRunsFrameAtSource : Obligations.StepRunsFrameAtSource := by
  intro s bytes i hcmds hsrc hd
  obtain ⟨a, b, hframe, rfl⟩ := decode_frame_eq_ok.1 hd
  have hlen := decodeFrame_length hframe
  calc step s = exec (ownTick s) (afterSource s) := step_of_no_cmds hcmds
    _ = exec (.tick 4 bytes) { s with source := .queue [], draws := s.draws + 1 } := by
      rw [ownTick_queue hsrc, afterSource_queue hsrc hlen.ge, List.take_of_length_le hlen.le,
        List.drop_of_length_le hlen.le, hlen]
    _ = exec (.frame a b) { s with source := .queue [], draws := s.draws + 1 } := by
      rw [frameIsTickOnItsBytes, encodeFrame_of_decodeFrame hframe]

end Sys2Proof
end

section
/-! PROOFS. The push path of FRAME (spec/30_encoding.md R79, spec/44_acquisition_tick.md R144, R146): two values in
range, met below capacity. -/

namespace Sys2Proof

open Machine

/-- How rendering ends is told by the length of the series and the clear before it (R146). -/
theorem Machine.renderSnapshot_outcome {c : Bool} {s t : State} (h : renderSnapshot c s = .next t) :
    t.ret = .outcome (if s.sa.length ≤ 1 then (if c then .cleared else .appended) else .published) := by
  rcases renderSnapshot_cases h with ⟨hl, rfl⟩ | ⟨ra, rb, r, hl, -, -, -, -, rfl⟩
  · rw [if_pos hl]
    rfl
  · rw [if_neg (Nat.not_le.2 hl)]
    rfl

/-- A tick whose two filtered values meet room in series of one length completes: it pushes both, writes no other
element but `PHASE`, and displays what is more than one sample (R144, R146). -/
theorem Machine.tick_pushes {avail : Nat} {rd : List Byte} {a b fa fb : U16} {s : State} (h : 4 ≤ avail)
    (hd : decodeFrame rd = some (a, b)) (ha : filterValue a s.sa.getLast? = some fa)
    (hb : filterValue b s.sb.getLast? = some fb) (hroom : s.count.val < 1000) (hlen : s.sa.length = s.sb.length) :
    ∃ t, tick avail rd s = .next t ∧
      t.unrecorded = (pushBoth fa fb ⟨s.count.val + 1, Nat.succ_lt_succ hroom⟩ s.unrecorded).setPhase .waiting ∧
      t.ret = .outcome (if s.sa = [] then .appended else .published) := by
  rw [tick_accepts s h hd ha hb, appendBoth_setRecord, appendBoth_room fa fb hroom]
  refine (renderSnapshot_next _ ?_).imp fun t ht => ⟨ht, renderSnapshot_unrecorded ht, ?_⟩
  · simp [hlen]
  · rw [renderSnapshot_outcome ht]
    simp [Nat.ne_of_lt hroom]

/-- Settles O42: both filters answer a value in range as it is. -/
theorem frameInRangeIsPushed : Obligations.FrameInRangeIsPushed := by
  intro s a b ha hb hroom hlen
  obtain ⟨t, ht, hu, hret⟩ := tick_pushes (le_refl 4) (decodeFrame_encodeFrame a b) (filterValue_of_le ha _)
    (filterValue_of_le hb _) hroom hlen
  exact ⟨t, ht, congrArg State.sa hu, congrArg State.sb hu, congrArg (fun x => x.count.val) hu,
    congrArg State.phase hu, (congrArg State.fault hu :), (congrArg State.source hu :),
    (congrArg State.draws hu :), (congrArg State.cmds hu :), hret⟩

end Sys2Proof
end

section
/-! PROOFS. The Frame Decoder (spec/40_frame_decoder.md R85 to R91): DECODE by the length of its operand, and what of
more than 4 bytes can be presented. -/

namespace Sys2Proof

open Machine

/-- Settles O1: decoding the encoding, and encoding what any 4 bytes decode to. -/
theorem frameRoundTrip : Obligations.FrameRoundTrip := by
  refine ⟨decodeFrame_encodeFrame, fun bytes hlen => ?_⟩
  obtain ⟨⟨a, b⟩, hd⟩ := Option.isSome_iff_exists.1 ((decodeFrame_isSome bytes).2 hlen)
  exact ⟨a, b, hd, encodeFrame_of_decodeFrame hd⟩

/-- R66, R67: the channel values of 4 bytes as numbers, each low byte first. -/
theorem decodeFrame_bytes (b0 b1 b2 b3 : Byte) :
    decodeFrame [b0, b1, b2, b3] =
      some (BitVec.ofNat 16 (b2.toNat + 256 * b3.toNat), BitVec.ofNat 16 (b0.toNat + 256 * b1.toNat)) := by
  obtain ⟨-, a, b, hd, ha, hb⟩ := frameIsLittleEndian b0 b1 b2 b3
  rw [hd, ← ha, ← hb, BitVec.ofNat_toNat, BitVec.ofNat_toNat, BitVec.setWidth_eq, BitVec.setWidth_eq]

namespace Machine

/-- DECODE of a frame returns its channel values and writes no element of the state (R85, R88). -/
theorem execDecode_frame {buf : List Byte} {a b : U16} (s : State) (hd : decodeFrame buf = some (a, b)) :
    execDecode buf s = .next ((s.perform .decode).answer (.sample a b)) := by
  have hfits : ¬ params.frameBytes < buf.length := (decodeFrame_length hd).not_gt
  simp only [execDecode, if_neg hfits, hd]

/-- DECODE of fewer than 4 bytes raises `IncompleteFrame` (R89). -/
theorem execDecode_short {buf : List Byte} (s : State) (hl : buf.length < 4) :
    execDecode buf s = .next (raiseAlone .incompleteFrame (s.perform .decode)) := by
  have hfits : ¬ params.frameBytes < buf.length := hl.not_gt
  have hd : decodeFrame buf = none :=
    Option.not_isSome_iff_eq_none.1 fun h => hl.ne ((decodeFrame_isSome buf).1 h)
  simp only [execDecode, if_neg hfits, hd]

/-- DECODE of more than 4 bytes is refused (R91). -/
theorem execDecode_overlong {buf : List Byte} (s : State) (hl : 4 < buf.length) :
    execDecode buf s = .refused (.overlongRead buf.length) := if_pos hl

/-- TICK is refused where it would read more than 4 bytes (R35). -/
theorem execTick_overlong {avail : Nat} {rd : List Byte} (s : State) (h : 4 ≤ avail) (hl : 4 < rd.length) :
    execTick avail rd s = .refused (.overlongRead rd.length) := if_pos ⟨h, hl⟩

/-- TICK with fewer than 4 bytes available ends `SourceNotReady`, whatever `rd` is (R156, R166). -/
theorem execTick_noData {avail : Nat} (rd : List Byte) (s : State) (h : avail < 4) :
    execTick avail rd s =
      .next (earlyOut .sourceNotReady (pollOp avail ((s.perform .tick).setPhase .waiting))) :=
  (execTick_eq s fun hp => h.not_ge hp.1).trans (tick_noData rd s h)

end Machine

/-- Settles O11: 4 bytes are a frame, whose channel values are the two 16-bit numbers in it. -/
theorem decodeGivesBothChannels : Obligations.DecodeGivesBothChannels :=
  fun s b0 b1 b2 b3 => execDecode_frame s (decodeFrame_bytes b0 b1 b2 b3)

/-- Settles O12: the short case of DECODE; `FAULT[2]` is the bit of `IncompleteFrame`. -/
theorem decodeOfTooFewBytesRaises : Obligations.DecodeOfTooFewBytesRaises :=
  fun s _ hl => execDecode_short s hl

/-- Settles O13: DECODE and a TICK that reads meet the overlong bytes, a TICK without data does not look at them. -/
theorem overlongReadsRefused : Obligations.OverlongReadsRefused :=
  fun s buf hl => ⟨execDecode_overlong s hl, fun _ h => execTick_overlong s h hl,
    fun _ h => ⟨_, execTick_noData buf s h⟩⟩

end Sys2Proof
end

section
/-! PROOFS. The Outlier Filter (spec/41_outlier_filter.md R93 to R98): FILTER by whether it answers. -/

namespace Sys2Proof

open Machine

namespace Machine

/-- FILTER returns what the filter answers and writes no element of the state (R93). -/
theorem execFilter_some {v f : U16} {prev : Option U16} (s : State) (h : filterValue v prev = some f) :
    execFilter v prev s = .next ((s.perform .filter).answer (.value f)) := by
  simp only [execFilter, h]

/-- FILTER raises `PrevUndefined` where the filter answers none (R96). -/
theorem execFilter_none {v : U16} {prev : Option U16} (s : State) (h : filterValue v prev = none) :
    execFilter v prev s = .next (raiseAlone .prevUndefined (s.perform .filter)) := by
  simp only [execFilter, h]

end Machine

/-- Settles O14: the filter answers the value, the previous one, or none. -/
theorem filterClampsOrRaises : Obligations.FilterClampsOrRaises := fun s _ =>
  ⟨fun hv prev => execFilter_some s (filterValue_of_le hv prev),
    fun hv p => execFilter_some s (filterValue_of_gt hv (some p)),
    fun hv => execFilter_none s (filterValue_of_gt hv none)⟩

/-- Settles O15: what is in range passes the filter as it is, and the result is in range, by R97 on a series that
ends in `prev`. -/
theorem filterIsIdempotent : Obligations.FilterIsIdempotent := by
  intro v prev f hprev h
  have hf : f.toNat ≤ 6000 := filterValue_le (l := [prev]) h (List.forall_mem_singleton.2 hprev)
  exact ⟨filterValue_of_le hf (some prev), hf⟩

end Sys2Proof
end

section
/-! PROOFS. The tick that publishes (spec/44_acquisition_tick.md R138, R139, R144): two values filtered against the
last elements of series of one positive length, met below capacity. -/

namespace Sys2Proof

open Machine

namespace Machine

/-- With a previous value the filter always answers (R93). -/
theorem filterValue_prev (v p : U16) :
    filterValue v (some p) = some (if v.toNat ≤ 6000 then v else p) :=
  (apply_ite some _ v p).symm

/-- TICK on a read that is a frame is the tick. -/
theorem execTick_frame {rd : List Byte} {p : U16 × U16} (avail : Nat) (s : State)
    (hd : decodeFrame rd = some p) : execTick avail rd s = tick avail rd s :=
  execTick_eq s fun h => (decodeFrame_length hd).not_gt h.2

end Machine

/-- Settles O40: the pushed series have at least 2 elements, on which the engine answers and rendering publishes. -/
theorem tickPushesAndPublishes : Obligations.TickPushesAndPublishes := by
  intro s avail rd a b pa pb fa fb hroom h4 hd hlen hpa hpb hfa hfb
  have ha : filterValue a s.sa.getLast? = some fa := by rw [hpa, filterValue_prev, hfa]
  have hb : filterValue b s.sb.getLast? = some fb := by rw [hpb, filterValue_prev, hfb]
  have hne : s.sa ≠ [] := List.ne_nil_of_mem (List.mem_of_getLast? hpa)
  have hlong : 1 < (s.sa ++ [fa]).length := by simp [List.length_pos_iff.2 hne]
  have hx := xcorr_some (y := s.sb ++ [fb]) hlong
  refine ⟨_, hx, (execTick_frame avail s hd).trans ?_⟩
  rw [tick_accepts s h4 hd ha hb, appendBoth_setRecord, appendBoth_room fa fb hroom]
  refine (renderSnapshot_publishes _ hlong (by simp [hlen]) List.getLast?_concat List.getLast?_concat hx).trans ?_
  simp [finishTick_eq, publishOp_eq, State.perform, pushBoth]

end Sys2Proof
end

section
/-! PROOFS. The two channels of a tick are filtered apart, and a rejected value leaves no trace
(spec/41_outlier_filter.md R94). -/

namespace Sys2Proof

open Machine

/-- What of a pair, one for each channel, is this channel's. -/
def Channel.pick (ch : Channel) (a b : U16) : U16 :=
  match ch with
  | .A => a
  | .B => b

namespace Machine

/-! ## The append -/

/-- An append does the same to each series, with the value of its own channel (R102 to R104). -/
theorem appendBoth_series (fa fb : U16) (s : State) (ch : Channel) :
    (appendBoth fa fb s).series ch = if s.count.val = 1000 then [] else s.series ch ++ [ch.pick fa fb] := by
  rcases appendBoth_cases fa fb s with ⟨hfull, e⟩ | ⟨hroom, e⟩
  · rw [e, if_pos hfull]
    cases ch <;> rfl
  · rw [e, if_neg hroom.ne]
    cases ch <;> rfl

/-- `COUNT` counts modulo 1001, its number of values (R107). -/
theorem appendBoth_count (fa fb : U16) (s : State) : (appendBoth fa fb s).count = s.count + 1 := by
  ext
  rcases appendBoth_cases fa fb s with ⟨hfull, e⟩ | ⟨hroom, e⟩
  · simp [e, Fin.val_add, hfull]
  · simp [e, Fin.val_add, Nat.mod_eq_of_lt (Nat.succ_lt_succ hroom)]

/-! ## The filter -/

/-- What the filter answers, as R94 puts it for a channel. -/
theorem filterValue_eq_some {v f : U16} {p : Option U16} :
    filterValue v p = some f ↔ if v.toNat ≤ 6000 then f = v else p = some f := by
  split
  next hv => rw [filterValue_of_le hv, Option.some.injEq, eq_comm]
  next hv => rw [filterValue_of_gt (Nat.not_le.1 hv)]

/-- The filter does not tell rejected values apart. -/
theorem filterValue_congr {v w : U16} (h : v = w ∨ (6000 < v.toNat ∧ 6000 < w.toNat)) (p : Option U16) :
    filterValue v p = filterValue w p := by
  rcases h with rfl | ⟨hv, hw⟩
  · rfl
  · rw [filterValue_of_gt hv, filterValue_of_gt hw]

/-! ## The calls -/

/-- The same calls after two records that show the same leave the same on the display. -/
theorem lastPublish_append_congr {c d : List Call} (h : lastPublish c = lastPublish d) (more : List Call) :
    lastPublish (c ++ more) = lastPublish (d ++ more) := by
  unfold lastPublish at h ⊢
  rw [List.foldl_append, List.foldl_append, h]

/-- The calls to the source are not shown. -/
theorem lastPublish_append_reads (c : List Call) (avail : Nat) (rd : List Byte) :
    lastPublish (c ++ [.srcAvail avail, .srcRead 4 rd]) = lastPublish c := by
  simp [lastPublish]

/-- Rendering adds to the calls and does not look at them. -/
theorem renderSnapshot_setCalls {c : Bool} {s t : State} (h : renderSnapshot c s = .next t) :
    ∃ more, ∀ cs, renderSnapshot c { s with calls := cs } = .next { t with calls := cs ++ more } := by
  rcases renderSnapshot_cases h with ⟨hl, rfl⟩ | ⟨ra, rb, r, hl, e, ha, hb, hx, rfl⟩
  · refine ⟨[.resched 100], fun cs => ?_⟩
    rw [renderSnapshot_skips c (s := { s with calls := cs }) hl]
    rfl
  · refine ⟨[.publish ⟨ra, rb, s.sa, s.sb, r⟩, .resched 100], fun cs => ?_⟩
    rw [renderSnapshot_publishes c (s := { s with calls := cs }) hl e ha hb hx]
    simp [finishTick_eq, publishOp_eq, State.perform]

/-- A tick on another frame whose values the filters answer alike ends in the same state, but for the recorded
answers of the source. -/
theorem tick_setFrame {avail : Nat} {rd : List Byte} {a b : U16} {s t : State} (h : 4 ≤ avail)
    (hd : decodeFrame rd = some (a, b)) (ht : tick avail rd s = .next t) :
    ∃ more, ∀ {avail' rd' a' b'}, 4 ≤ avail' → decodeFrame rd' = some (a', b') →
      filterValue a' s.sa.getLast? = filterValue a s.sa.getLast? →
      filterValue b' s.sb.getLast? = filterValue b s.sb.getLast? →
      tick avail' rd' s = .next { t with calls := s.calls ++ [.srcAvail avail', .srcRead 4 rd'] ++ more } := by
  rcases tickFilter_cases a b s with ⟨fa, fb, ha, hb, -⟩ | ⟨hn, -⟩
  · rw [tick_accepts s h hd ha hb, appendBoth_setRecord] at ht
    obtain ⟨more, hmore⟩ := renderSnapshot_setCalls ht
    refine ⟨more, fun h' hd' ha' hb' => ?_⟩
    rw [tick_accepts s h' hd' (ha'.trans ha) (hb'.trans hb), appendBoth_setRecord]
    exact hmore _
  · rw [tick_rejects s h hd hn] at ht
    cases ht
    refine ⟨[.report .prevUndefined, .resched 100], fun h' hd' ha' hb' => ?_⟩
    rw [tick_rejects s h' hd' (by rwa [ha', hb'])]
    simp [earlyOut_eq]

end Machine

/-- A tick that gets a frame is one tick on the bytes of that frame, the same from any state. -/
theorem TakesFrame.exec_eq {i : Instr} {a b : U16} (hi : TakesFrame i a b) :
    ∃ avail rd, 4 ≤ avail ∧ decodeFrame rd = some (a, b) ∧ ∀ s, exec i s = tick avail rd s := by
  rcases hi with rfl | ⟨avail, rd, h, hd, rfl⟩
  · exact ⟨4, encodeFrame a b, le_refl 4, decodeFrame_encodeFrame a b, fun _ => rfl⟩
  · exact ⟨avail, rd, h, hd, fun s => execTick_frame avail s hd⟩

/-- R94, the whole rule of one channel: a tick that gets a frame and does not end `PrevUndefined` filters the value
of each channel against that channel's own last element and appends what the filter answers. -/
theorem TakesFrame.appends {i : Instr} {a b : U16} {s t : State} (hi : TakesFrame i a b)
    (h : exec i s = .next t) (hret : t.ret ≠ .outcome .prevUndefined) :
    t.count = s.count + 1 ∧ ∀ ch : Channel, ∃ f, filterValue (ch.pick a b) (lastOf ch s) = some f ∧
      t.series ch = if s.count.val = 1000 then [] else s.series ch ++ [f] := by
  obtain ⟨avail, rd, h4, hd, heq⟩ := hi.exec_eq
  rw [heq] at h
  rcases tickFilter_cases a b s with ⟨fa, fb, ha, hb, -⟩ | ⟨hn, -⟩
  · rw [tick_accepts s h4 hd ha hb, appendBoth_setRecord] at h
    have hu := renderSnapshot_unrecorded h
    refine ⟨(congrArg State.count hu).trans (appendBoth_count fa fb s), fun ch => ⟨ch.pick fa fb, ?_,
      (congrArg (State.series ch) hu).trans (appendBoth_series fa fb s ch)⟩⟩
    cases ch
    · exact ha
    · exact hb
  · rw [tick_rejects s h4 hd hn] at h
    cases h
    exact absurd rfl hret

/-- R94, first clause: below capacity each channel is pushed its own value or its own last element. -/
theorem TakesFrame.pushes {i : Instr} {a b : U16} {s t : State} (hi : TakesFrame i a b)
    (h : exec i s = .next t) (hret : t.ret ≠ .outcome .prevUndefined) (hroom : s.count.val < 1000)
    (ch : Channel) :
    ∃ f, t.series ch = s.series ch ++ [f] ∧
      if (ch.pick a b).toNat ≤ 6000 then f = ch.pick a b else lastOf ch s = some f := by
  obtain ⟨-, hch⟩ := hi.appends h hret
  obtain ⟨f, hf, hs⟩ := hch ch
  rw [if_neg hroom.ne] at hs
  exact ⟨f, hs, filterValue_eq_some.1 hf⟩

/-- What a frame leaves on a channel is a function of that channel's raw value, its series, and `COUNT`. -/
theorem TakesFrame.series_congr {i1 i2 : Instr} {a1 b1 a2 b2 : U16} {s1 s2 t1 t2 : State} (ch : Channel)
    (hi1 : TakesFrame i1 a1 b1) (hi2 : TakesFrame i2 a2 b2) (hv : ch.pick a1 b1 = ch.pick a2 b2)
    (hs : s1.series ch = s2.series ch) (hcount : s1.count = s2.count)
    (h1 : exec i1 s1 = .next t1) (h2 : exec i2 s2 = .next t2)
    (hr1 : t1.ret ≠ .outcome .prevUndefined) (hr2 : t2.ret ≠ .outcome .prevUndefined) :
    t1.series ch = t2.series ch ∧ t1.count = t2.count := by
  obtain ⟨hc1, hch1⟩ := hi1.appends h1 hr1
  obtain ⟨hc2, hch2⟩ := hi2.appends h2 hr2
  obtain ⟨f1, hf1, hs1⟩ := hch1 ch
  obtain ⟨f2, hf2, hs2⟩ := hch2 ch
  rw [lastOf, hv, hs] at hf1
  cases hf1.symm.trans hf2
  exact ⟨by rw [hs1, hs2, hs, hcount], by rw [hc1, hc2, hcount]⟩

/-- A rejected value leaves no trace: any other rejected value in its place ends alike, but for the recorded calls,
and shows the same. -/
theorem TakesFrame.rejected_congr {i1 i2 : Instr} {a1 a2 b1 b2 : U16} {s t1 t2 : State}
    (hi1 : TakesFrame i1 a1 b1) (hi2 : TakesFrame i2 a2 b2)
    (ha : a1 = a2 ∨ (6000 < a1.toNat ∧ 6000 < a2.toNat)) (hb : b1 = b2 ∨ (6000 < b1.toNat ∧ 6000 < b2.toNat))
    (h1 : exec i1 s = .next t1) (h2 : exec i2 s = .next t2) :
    t2 = { t1 with calls := t2.calls } ∧ lastPublish t2.calls = lastPublish t1.calls := by
  obtain ⟨avail1, rd1, h41, hd1, heq1⟩ := hi1.exec_eq
  obtain ⟨avail2, rd2, h42, hd2, heq2⟩ := hi2.exec_eq
  rw [heq1] at h1
  rw [heq2] at h2
  obtain ⟨more, hmore⟩ := tick_setFrame h41 hd1 h1
  have hend1 := Host.Outcome.next.inj (h1.symm.trans (hmore h41 hd1 rfl rfl))
  have hend2 := Host.Outcome.next.inj
    (h2.symm.trans (hmore h42 hd2 (filterValue_congr ha _).symm (filterValue_congr hb _).symm))
  have hcalls1 := congrArg State.calls hend1
  have hcalls2 := congrArg State.calls hend2
  refine ⟨hend2.trans (by rw [hcalls2]), ?_⟩
  rw [hcalls1, hcalls2]
  exact lastPublish_append_congr (by rw [lastPublish_append_reads, lastPublish_append_reads]) more

/-- Settles O49: R94 a clause at a time, those of one channel at A and at B. -/
theorem channelAIgnoresChannelB : Obligations.ChannelAIgnoresChannelB := by
  refine ⟨?_, ?_, ?_, ?_⟩
  · intro s t i a b hi h hret hroom
    obtain ⟨fa, hsa, ha⟩ := hi.pushes h hret hroom .A
    obtain ⟨fb, hsb, hb⟩ := hi.pushes h hret hroom .B
    exact ⟨fa, fb, hsa, hsb, ha, hb⟩
  · intro s1 s2 t1 t2 i1 i2 a b1 b2 hi1 hi2 hsa hcount h1 h2 hr1 hr2
    exact TakesFrame.series_congr .A hi1 hi2 rfl hsa hcount h1 h2 hr1 hr2
  · intro s1 s2 t1 t2 i1 i2 a1 a2 b hi1 hi2 hsb hcount h1 h2 hr1 hr2
    exact TakesFrame.series_congr .B hi1 hi2 rfl hsb hcount h1 h2 hr1 hr2
  · intro s t1 t2 i1 i2 a1 a2 b1 b2 hi1 hi2 ha hb h1 h2
    exact hi1.rejected_congr hi2 ha hb h1 h2

end Sys2Proof
end

section
/-! PROOFS. The Windowed Sample Buffer (spec/42_sample_buffer.md R102 to R107): its operations taken alone, and the
cycle of 1001 appends. -/

namespace Sys2Proof

open Machine

namespace Machine

/-- The append does not look at the record. -/
theorem appendBoth_perform (fa fb : U16) (op : Opc) (s : State) :
    appendBoth fa fb (s.perform op) = (appendBoth fa fb s).perform op := by
  unfold State.perform appendBoth
  split <;> rfl

/-- APPEND is the append of R102, recorded, and returns nothing. -/
theorem execAppend_eq (fa fb : U16) (s : State) :
    execAppend fa fb s = .next (((appendBoth fa fb s).perform .append).answer .nothing) := by
  rw [execAppend, appendBoth_perform]

/-- The newest element stands at `LEN - 1`; an empty series has none (R105). -/
theorem getLast?_eq_ite_getElem? (l : List U16) :
    l.getLast? = if 1 ≤ l.length then l[l.length - 1]? else none := by
  split
  next => exact List.getLast?_eq_getElem?
  next hl => rw [List.length_eq_zero_iff.1 (Nat.lt_one_iff.1 (Nat.not_le.1 hl)), List.getLast?_nil]

/-- LAST reads its own channel's newest element and writes nothing (R105). -/
theorem execLast_eq (ch : Channel) (s : State) :
    execLast ch s = .next { s with
      ret := .last (if 1 ≤ (s.series ch).length then (s.series ch)[(s.series ch).length - 1]? else none)
      trace := s.trace ++ [⟨s.phase, .last⟩] } := by
  rw [← getLast?_eq_ite_getElem?]
  rfl

end Machine

/-- Settles O16: the push path of the append. -/
theorem appendPushesBoth : Obligations.AppendPushesBoth := by
  intro s fa fb hroom
  refine ⟨(execAppend_eq fa fb s).trans ?_, List.getLast?_concat, List.getLast?_concat,
    List.getElem?_concat_length, List.getElem?_concat_length⟩
  rw [appendBoth_room fa fb hroom]
  rfl

/-- Settles O17: the wrap-clear path of the append. -/
theorem appendAtCapacityClears : Obligations.AppendAtCapacityClears := by
  intro s fa fb hfull
  refine (execAppend_eq fa fb s).trans ?_
  rw [appendBoth_full fa fb hfull]
  rfl

/-- Settles O18: LAST on each channel. -/
theorem lastReadsTheNewest : Obligations.LastReadsTheNewest :=
  fun s => ⟨execLast_eq .A s, execLast_eq .B s, fun _ _ => List.getLast?_eq_getElem?.symm.trans List.getLast?_concat⟩

/-- Settles O19: what SNAPSHOT answers is its definition. -/
theorem snapshotReadsBothSeries : Obligations.SnapshotReadsBothSeries := fun _ => rfl

namespace Machine

/-! ## The cycle -/

/-- A run of appends, as the buffer's own operation (R107). -/
def appendAll (steps : List (U16 × U16)) (s : State) : State :=
  steps.foldl (fun s p => appendBoth p.1 p.2 s) s

/-- The last append of a run runs on what the others left. -/
theorem appendAll_concat (steps : List (U16 × U16)) (p : U16 × U16) (s : State) :
    appendAll (steps ++ [p]) s = appendBoth p.1 p.2 (appendAll steps s) := by
  simp [appendAll]

/-- `LEN` after `m` appends from construction: with the seed in epoch 0, without it in every later one (R107, R110). -/
def cycleLength (m : Nat) : Nat := if m < 1001 then m + 1 else m % 1001

/-- `LEN` grows by one, and drops to 0 where the append finds `COUNT = 1000`. -/
theorem cycleLength_succ (m : Nat) :
    cycleLength (m + 1) = if m % 1001 = 1000 then 0 else cycleLength m + 1 := by
  unfold cycleLength
  split_ifs <;> omega

/-- A run of appends adds their number to `COUNT`, modulo 1001 (R107). -/
theorem appendAll_count (steps : List (U16 × U16)) (s : State) :
    (appendAll steps s).count.val = (s.count.val + steps.length) % 1001 := by
  induction steps using List.reverseRecOn with
  | nil => exact (Nat.mod_eq_of_lt s.count.isLt).symm
  | append_singleton steps p ih =>
    rw [appendAll_concat, appendBoth_count, Fin.val_add, ih, List.length_append]
    simp [Nat.add_assoc]

/-- After `m` appends from construction `COUNT` is `m mod 1001` (R107). -/
theorem appendAll_reset_count (steps : List (U16 × U16)) :
    (appendAll steps .reset).count.val = steps.length % 1001 := by
  rw [appendAll_count]
  exact congrArg (· % 1001) (Nat.zero_add _)

/-- After `m` appends from construction each series has its length in the cycle (R107, R110). -/
theorem appendAll_reset_length (steps : List (U16 × U16)) (ch : Channel) :
    ((appendAll steps .reset).series ch).length = cycleLength steps.length := by
  induction steps using List.reverseRecOn with
  | nil => cases ch <;> rfl
  | append_singleton steps p ih =>
    rw [appendAll_concat, appendBoth_series, appendAll_reset_count, List.length_append, List.length_singleton,
      cycleLength_succ]
    split
    · rfl
    · rw [List.length_append, ih, List.length_singleton]

end Machine

/-- Settles O20: `COUNT` and the two lengths are functions of the number of appends. -/
theorem appendCycleHasPeriod1001 : Obligations.AppendCycleHasPeriod1001 := fun steps =>
  ⟨appendAll_reset_count steps, appendAll_reset_length steps .A,
    (appendAll_reset_length steps .B).trans (appendAll_reset_length steps .A).symm⟩

end Sys2Proof
end

section
/-! PROOFS. The ticks that push or clear and do not publish (spec/42_sample_buffer.md R104, R111,
spec/44_acquisition_tick.md R138, R146): what they leave of each series is at most one sample. -/

namespace Sys2Proof

open Machine

/-- A tick whose values are both accepted and which leaves at most one sample is the append, with no call to the
display; the outcome tells the two paths of the append apart. -/
theorem Machine.execTick_appends {avail : Nat} {rd : List Byte} {a b fa fb : U16} {s : State} (h : 4 ≤ avail)
    (hd : decodeFrame rd = some (a, b)) (ha : filterValue a s.sa.getLast? = some fa)
    (hb : filterValue b s.sb.getLast? = some fb) (hshort : (appendBoth fa fb s).sa.length ≤ 1) :
    execTick avail rd s = .next { appendBoth fa fb s with
      phase := .waiting, ret := .outcome (if s.count.val = 1000 then .cleared else .appended)
      calls := s.calls ++ [.srcAvail avail, .srcRead 4 rd, .resched 100]
      trace := s.trace ++ [⟨s.phase, .tick⟩, ⟨.waiting, .poll⟩, ⟨.waiting, .read4⟩, ⟨.decoding, .decode⟩,
        ⟨.filtering, .last⟩, ⟨.filtering, .last⟩, ⟨.filtering, .filter⟩, ⟨.filtering, .filter⟩,
        ⟨.buffering, .append⟩, ⟨.rendering, .snapshot⟩, ⟨.rendering, .resched⟩] } := by
  rw [execTick_frame avail s hd, tick_accepts s h hd ha hb, appendBoth_setRecord, renderSnapshot_skips]
  · simp [finishTick_eq]
  · exact hshort

/-- Settles O38: each filter answers, and the wrap-clear leaves no sample. -/
theorem tickAtCapacityClears : Obligations.TickAtCapacityClears := by
  intro s avail rd a b h4 hd ha hb hfull
  obtain ⟨fa, ha⟩ := filterValue_isSome ha
  obtain ⟨fb, hb⟩ := filterValue_isSome hb
  have hclear : appendBoth fa fb s = wrapClear s := appendBoth_full fa fb hfull
  refine (execTick_appends h4 hd ha hb (by simp [hclear])).trans ?_
  rw [hclear, if_pos hfull]
  rfl

/-- Settles O39: each filter answers its value as it is, and the push on empty series leaves one sample. -/
theorem tickAfterClearAppends : Obligations.TickAfterClearAppends := by
  intro s avail rd a b hroom h4 hd ha hb hsa hsb
  have hpush := appendBoth_room a b hroom
  refine (execTick_appends h4 hd (filterValue_of_le ha _) (filterValue_of_le hb _) (by simp [hpush, hsa])).trans ?_
  rw [hpush, if_neg hroom.ne]
  simp [pushBoth, hsa, hsb]

end Sys2Proof
end

section
/-! PROOFS. The numerators of the Cross-Correlation Engine on any two integer series (spec/43_xcorr_engine.md R117,
R124 to R127, R129): one entry as a sum over indices, the sum of all entries, and the size of an entry. -/

namespace Sys2Proof.Machine

/-! ## One entry -/

/-- A dot product by index; where the second list has run out the term is 0. -/
theorem sum_zipWith_mul (as bs : List Int) :
    (List.zipWith (fun a b => a * b) as bs).sum = ∑ i ∈ Finset.range as.length, as.getD i 0 * bs.getD i 0 := by
  induction as generalizing bs with
  | nil => simp
  | cons a as ih =>
    cases bs with
    | nil => simp
    | cons b bs => simp [Finset.sum_range_succ', ih, add_comm]

/-- The windows of R129 are the sum of R119 over the valid indices `i` (R117). -/
theorem numerator_eq_sum {xs ys : List Int} (h : xs.length = ys.length) (k : Int) :
    numerator xs ys k = ∑ i ∈ Finset.range xs.length,
      if 0 ≤ (i : Int) - k ∧ (i : Int) - k ≤ (xs.length : Int) - 1 then
        xs.getD i 0 * ys.getD ((i : Int) - k).toNat 0
      else 0 := by
  have hbelow : Finset.Ico k.toNat xs.length ⊆ Finset.range xs.length := fun i hi =>
    Finset.mem_range.2 (Finset.mem_Ico.1 hi).2
  rw [numerator, sum_zipWith_mul, ← Finset.sum_subset hbelow, Finset.sum_Ico_eq_sum_range, List.length_drop]
  · refine Finset.sum_congr rfl fun m _ => ?_
    have hj : ((k.toNat + m : Nat) : Int) - k = ((-k).toNat + m : Nat) := by omega
    rw [hj, Int.toNat_natCast]
    simp only [List.getD_eq_getElem?_getD, List.getElem?_drop]
    split
    next => rfl
    next hout => rw [List.getElem?_eq_none (l := ys) (by omega)]; exact mul_zero _
  · intro i hi hi'
    refine if_neg ?_
    simp only [Finset.mem_range, Finset.mem_Ico] at hi hi'
    omega

/-- Exchanging the operands negates the lag (R124): the two windows change places. -/
theorem numerator_swap (xs ys : List Int) (k : Int) : numerator ys xs (-k) = numerator xs ys k := by
  rw [numerator, numerator, neg_neg]
  exact congrArg _ (List.zipWith_comm_of_comm mul_comm)

/-- A series of zeros correlates to 0 (R127). -/
theorem numerator_replicate_zero (n : Nat) (ys : List Int) (k : Int) :
    numerator (List.replicate n 0) ys k = 0 := by
  rw [numerator, sum_zipWith_mul]
  refine Finset.sum_eq_zero fun i _ => ?_
  rw [List.drop_replicate, List.getD_eq_getElem?_getD, List.getElem?_getD_replicate_default_eq, zero_mul]

/-! ## All entries -/

/-- Negating every lag turns their order round (R118). -/
theorem lags_reverse (n : Nat) : (lags n).reverse = (lags n).map (fun k => -k) := by
  refine List.ext_getElem (by simp) fun p hp _ => ?_
  simp only [List.length_reverse, lags_length] at hp
  simp only [lags, List.getElem_reverse, List.getElem_map, List.getElem_range, List.length_map, List.length_range]
  omega

/-- Lag 0 is one of the lags (R118). -/
theorem zero_mem_lags {n : Nat} (h : 1 ≤ n) : 0 ∈ lags n :=
  List.mem_map.2 ⟨n - 1, List.mem_range.2 (by omega), by omega⟩

/-- No lag reaches the length in size (R118). -/
theorem abs_lt_of_mem_lags {n : Nat} {k : Int} (h : k ∈ lags n) : |k| < n := by
  obtain ⟨p, hp, rfl⟩ := List.mem_map.1 h
  rw [List.mem_range] at hp
  rw [abs_lt]
  omega

/-- A sum over the lags, by position in the result. -/
theorem sum_map_lags (n : Nat) (f : Int → Int) :
    ((lags n).map f).sum = ∑ p ∈ Finset.range (2 * n - 1), f ((p : Int) - ((n : Int) - 1)) := by
  rw [lags, List.map_map, ← List.sum_toFinset _ List.nodup_range, List.toFinset_range]
  rfl

/-- Over all lags, an index `i` meets each index of the other series once (R125). -/
theorem sum_over_valid_lags {n i : Nat} (hi : i < n) (g : Nat → Int) :
    (∑ p ∈ Finset.range (2 * n - 1),
      if 0 ≤ (i : Int) - ((p : Int) - ((n : Int) - 1)) ∧
          (i : Int) - ((p : Int) - ((n : Int) - 1)) ≤ (n : Int) - 1 then
        g ((i : Int) - ((p : Int) - ((n : Int) - 1))).toNat
      else 0) = ∑ j ∈ Finset.range n, g j := by
  rw [← Finset.sum_filter]
  refine Finset.sum_nbij' (fun p => i + (n - 1) - p) (fun j => i + (n - 1) - j) (by simp; omega) (by simp; omega)
    (by simp; omega) (by simp; omega) fun p hp => congrArg g ?_
  rw [Finset.mem_filter, Finset.mem_range] at hp
  omega

/-- The sum of a series, by index. -/
theorem sum_eq_sum_getD (l : List Int) : l.sum = ∑ i ∈ Finset.range l.length, l.getD i 0 := by
  simp [Finset.sum_range, Fin.sum_univ_getElem]

/-- The numerators add up to the product of the two sums (R125). -/
theorem sum_numerator_lags {xs ys : List Int} (h : xs.length = ys.length) :
    ((lags xs.length).map (numerator xs ys)).sum = xs.sum * ys.sum := by
  rw [sum_map_lags]
  simp only [numerator_eq_sum h]
  rw [Finset.sum_comm, sum_eq_sum_getD xs, sum_eq_sum_getD ys, ← h, Finset.sum_mul]
  refine Finset.sum_congr rfl fun i hi => ?_
  rw [← sum_over_valid_lags (Finset.mem_range.1 hi), Finset.mul_sum]
  exact Finset.sum_congr rfl fun p _ => (mul_ite_zero _ _ _).symm

/-! ## The size of an entry -/

/-- The sum of the squares of a series, which is its autocorrelation at lag 0 (R126). -/
def energy (xs : List Int) : Int := (xs.map (fun a => a * a)).sum

theorem numerator_self_zero (xs : List Int) : numerator xs xs 0 = energy xs := by
  simp [numerator, energy, List.zipWith_self]

theorem energy_nonneg (xs : List Int) : 0 ≤ energy xs :=
  List.sum_nonneg (List.forall_mem_map.2 fun a _ => mul_self_nonneg a)

theorem energy_drop_le (xs : List Int) (m : Nat) : energy (xs.drop m) ≤ energy xs :=
  ((List.drop_sublist m xs).map _).sum_le_sum (List.forall_mem_map.2 fun a _ => mul_self_nonneg a)

theorem energy_le {xs : List Int} {b : Int} (h : ∀ a ∈ xs, |a| ≤ b) : energy xs ≤ xs.length * b ^ 2 := by
  have hle := List.sum_le_card_nsmul (xs.map (fun a => a * a)) (b ^ 2)
    (List.forall_mem_map.2 fun a ha => by
      rw [← abs_mul_abs_self, pow_two]
      exact mul_self_le_mul_self (abs_nonneg a) (h a ha))
  simpa [energy] using hle

/-- The arithmetic-geometric form of the Cauchy-Schwarz inequality, term by term. -/
theorem two_mul_abs_sum_zipWith_le (as bs : List Int) :
    2 * |(List.zipWith (fun a b => a * b) as bs).sum| ≤ energy as + energy bs := by
  induction as generalizing bs with
  | nil => simpa [energy] using energy_nonneg bs
  | cons a as ih =>
    cases bs with
    | nil => simpa [energy] using energy_nonneg (a :: as)
    | cons b bs =>
      have hterm : 2 * |a * b| ≤ a * a + b * b := by
        have hsq := two_mul_le_add_sq |a| |b|
        rw [sq_abs, sq_abs] at hsq
        rw [abs_mul]
        linarith
      have htail := ih bs
      have htri := abs_add_le (a * b) (List.zipWith (fun a b => a * b) as bs).sum
      simp only [energy, List.zipWith_cons_cons, List.map_cons, List.sum_cons] at htail ⊢
      linarith

/-- No entry exceeds, in size, the mean of the two values at lag 0 (R126). -/
theorem two_mul_abs_numerator_le (xs ys : List Int) (k : Int) :
    2 * |numerator xs ys k| ≤ energy xs + energy ys :=
  (two_mul_abs_sum_zipWith_le _ _).trans (add_le_add (energy_drop_le xs _) (energy_drop_le ys _))

end Sys2Proof.Machine
end

section
/-! PROOFS. The centred series of the engine (spec/43_xcorr_engine.md R116, R119, R120): its sum, its bound, the
widths that hold what is made of it, and its rational form. -/

namespace Sys2Proof.Machine

/-! ## The centred series -/

theorem centred_getD {x : List U16} {i : Nat} (h : i < x.length) :
    (centred x).getD i 0 = (x.length : Int) * ((x.getD i 0).toNat : Int) - seriesSum x := by
  simp [centred, List.getD_eq_getElem?_getD, h]

/-- A series scaled by `c` and shifted by `d`, summed. -/
theorem sum_map_mul_sub (c d : Int) (x : List U16) :
    (x.map (fun v => c * (v.toNat : Int) - d)).sum = c * seriesSum x - x.length * d := by
  induction x with
  | nil => simp [seriesSum]
  | cons v x ih =>
    simp only [seriesSum, List.map_cons, List.sum_cons, List.length_cons, Nat.cast_succ] at ih ⊢
    rw [ih]
    ring

/-- `sum(x') = 0` (R116). -/
theorem centred_sum (x : List U16) : (centred x).sum = 0 := by
  rw [centred, sum_map_mul_sub, sub_self]

/-- A constant series is all zero once centred (R127). -/
theorem centred_const {x : List U16} {c : U16} (h : ∀ v ∈ x, v = c) :
    centred x = List.replicate x.length 0 := by
  obtain ⟨n, rfl⟩ : ∃ n, x = List.replicate n c := ⟨x.length, List.eq_replicate_iff.2 ⟨rfl, h⟩⟩
  simp [centred, seriesSum]

/-- The bound on `|X[i]|` that the widths of R120 rest on. -/
theorem abs_le_of_mem_centred {x : List U16} {a : Int} (h : a ∈ centred x) : |a| ≤ x.length * 65535 := by
  obtain ⟨v, -, rfl⟩ := List.mem_map.1 h
  have helem (w : U16) : (w.toNat : Int) ≤ 65535 := by have := w.isLt; omega
  have hsum : seriesSum x ≤ x.length * 65535 := by
    simpa [seriesSum] using List.sum_le_card_nsmul (x.map (fun (w : U16) => (w.toNat : Int))) 65535
      (List.forall_mem_map.2 fun w _ => helem w)
  have hnonneg : 0 ≤ seriesSum x := List.sum_nonneg (List.forall_mem_map.2 fun w _ => Int.natCast_nonneg _)
  have hv : (x.length : Int) * v.toNat ≤ x.length * 65535 := mul_le_mul_of_nonneg_left (helem v) (by positivity)
  have hv0 : 0 ≤ (x.length : Int) * v.toNat := by positivity
  rw [abs_le]
  constructor <;> linarith

/-! ## The widths -/

/-- Up to 1001 samples an entry at lag 0 is below 2^63 (R120). -/
theorem energy_centred_lt {x : List U16} (h : x.length ≤ 1001) : energy (centred x) < 2 ^ 63 := by
  have hn : (x.length : Int) ≤ 1001 := by exact_mod_cast h
  calc energy (centred x) ≤ x.length * (x.length * 65535 : Int) ^ 2 := by
        simpa using energy_le (xs := centred x) fun a ha => abs_le_of_mem_centred ha
    _ ≤ 1001 * (1001 * 65535) ^ 2 := by gcongr
    _ < 2 ^ 63 := by norm_num

/-- A lag below 2^10 and a numerator below 2^63 in size read back from their fields (R74). -/
theorem entryWire_toInt {e : Int × Int} (hlag : |e.1| < 2 ^ 10) (hnum : |e.2| < 2 ^ 63) :
    ((entryWire e).1.toInt, (entryWire e).2.toInt) = e := by
  rw [abs_lt] at hlag hnum
  exact Prod.ext (BitVec.toInt_ofInt_eq_self (by decide) hlag.1.le hlag.2)
    (BitVec.toInt_ofInt_eq_self (by decide) hnum.1.le hnum.2)

/-! ## The rational form -/

@[simp] theorem toQ_length (x : List U16) : (toQ x).length = x.length := List.length_map _

theorem seriesSum_cast (x : List U16) : ((seriesSum x : Int) : ℚ) = (toQ x).sum := by
  simp [seriesSum, toQ, Int.cast_list_sum, Function.comp_def]

/-- `X[i] = n * x'[i]` (R119). -/
theorem centred_getD_cast (x : List U16) (i : Nat) :
    (((centred x).getD i 0 : Int) : ℚ) = x.length * (centredQ (toQ x)).getD i 0 := by
  rcases Nat.lt_or_ge i x.length with hi | hi
  · have hn : (x.length : ℚ) ≠ 0 := by exact_mod_cast (Nat.zero_lt_of_lt hi).ne'
    have hq : (centredQ (toQ x)).getD i 0 = (x.getD i 0).toNat - (toQ x).sum / x.length := by
      simp [centredQ, meanQ, toQ, List.getD_eq_getElem?_getD, hi]
    rw [centred_getD hi, hq]
    push_cast
    rw [seriesSum_cast, mul_sub, mul_div_cancel₀ _ hn]
  · simp [List.getD_eq_getElem?_getD, centred, centredQ, toQ, hi]

/-- `corr[k] = num[k] / den` (R119). -/
theorem numerator_div_den {x y : List U16} (h : x.length = y.length) (hn : 2 ≤ x.length) (k : Int) :
    (numerator (centred x) (centred y) k : ℚ) / ((x.length * x.length : Nat) : ℚ) = corrQ (toQ x) (toQ y) k := by
  have hn0 : ((x.length * x.length : Nat) : ℚ) ≠ 0 := by
    exact_mod_cast (Nat.mul_pos (by omega) (by omega)).ne'
  rw [div_eq_iff hn0, numerator_eq_sum (by simpa using h), corrQ, Finset.sum_mul, Int.cast_sum, centred_length,
    toQ_length]
  refine Finset.sum_congr rfl fun i _ => ?_
  split
  · rw [Int.cast_mul, centred_getD_cast, centred_getD_cast, ← h]
    push_cast
    ring
  · simp

end Sys2Proof.Machine
end

section
/-! PROOFS. XCORR (spec/43_xcorr_engine.md R115 to R131): the operation by its cases, and its statements. -/

namespace Sys2Proof

open Machine

namespace Machine

/-- XCORR answers exactly where it has at least 2 samples (R121). -/
theorem xcorr_eq_some {x y : List U16} {r : CorrResult} :
    xcorr x y = some r ↔ 2 ≤ x.length ∧ r = ⟨x.length * x.length,
      (lags x.length).map (fun k => (k, numerator (centred x) (centred y) k))⟩ := by
  rcases Nat.lt_or_ge x.length 2 with h | h
  · simp [xcorr_none h, Nat.not_le.2 h]
  · rw [xcorr_some h, Option.some.injEq, eq_comm, and_iff_right h]

/-- XCORR returns what the engine answers and writes no element of the state (R115, R123). -/
theorem execXcorr_some {x y : List U16} {r : CorrResult} (s : State) (h : x.length = y.length)
    (hr : xcorr x y = some r) : execXcorr x y s = .next ((s.perform .xcorr).answer (.corr r)) := by
  simp only [execXcorr, h, hr, ne_eq, not_true, if_false]

/-- XCORR raises `EngineMisuse` where the engine answers none (R121). -/
theorem execXcorr_none {x y : List U16} (s : State) (h : x.length = y.length) (hr : xcorr x y = none) :
    execXcorr x y s = .next (raiseAlone .engineMisuse (s.perform .xcorr)) := by
  simp only [execXcorr, h, hr, ne_eq, not_true, if_false]

/-- Unequal lengths are refused (R122). -/
theorem execXcorr_unequal {x y : List U16} (s : State) (h : x.length ≠ y.length) :
    execXcorr x y s = .refused (.unequalLengths x.length y.length) := if_pos h

/-- A returned result is the engine's answer on operands of one length. -/
theorem execXcorr_ret {x y : List U16} {s t : State} {r : CorrResult} (h : execXcorr x y s = .next t)
    (hr : t.ret = .corr r) : x.length = y.length ∧ xcorr x y = some r := by
  by_cases hl : x.length = y.length
  · cases hx : xcorr x y with
    | none =>
      rw [execXcorr_none s hl hx] at h
      cases h
      cases hr
    | some q =>
      rw [execXcorr_some s hl hx] at h
      cases h
      cases hr
      exact ⟨hl, rfl⟩
  · rw [execXcorr_unequal s hl] at h
    cases h

end Machine

/-- Settles O21: the entry at a position is the numerator at its lag, and the windows are the sum over the valid
indices. -/
theorem xcorrReturnsExactResult : Obligations.XcorrReturnsExactResult := by
  rintro s x y n rfl hy hn
  refine ⟨_, execXcorr_some s hy.symm (xcorr_some hn), rfl, by simp, fun p hp => ?_⟩
  rw [List.getElem?_map, lags_getElem? hp, Option.map_some, numerator_eq_sum (by simp [hy]), centred_length]
  congr 2
  refine Finset.sum_congr rfl fun i hi => if_ctx_congr Iff.rfl (fun hvalid => ?_) fun _ => rfl
  rw [centred_getD (Finset.mem_range.1 hi), centred_getD (by omega), hy]
  rfl

/-- Settles O22: an entry is a lag with its numerator, and `X[i] = n * x'[i]`. -/
theorem xcorrEqualsMeanCentredFormula : Obligations.XcorrEqualsMeanCentredFormula := by
  intro s t x y r h hr
  obtain ⟨hl, hx⟩ := execXcorr_ret h hr
  obtain ⟨hn, rfl⟩ := xcorr_eq_some.1 hx
  exact ⟨by simp, List.forall_mem_map.2 fun k _ => numerator_div_den hl hn k⟩

/-- Settles O25: the entry at a lag becomes the entry at its negative, which is the lag from the other end. -/
theorem xcorrIsSymmetric : Obligations.XcorrIsSymmetric := by
  intro x y r q hl hr hq
  obtain ⟨-, rfl⟩ := xcorr_eq_some.1 hr
  obtain ⟨-, rfl⟩ := xcorr_eq_some.1 hq
  refine ⟨by rw [hl], ?_, by simp [hl]⟩
  simp only [List.map_map, ← List.map_reverse, lags_reverse, hl]
  exact List.map_congr_left fun k _ => by simpa using numerator_swap (centred x) (centred y) (-k)

/-- Settles O26: the sum is the product of the sums of the centred series. -/
theorem xcorrEntriesSumToZero : Obligations.XcorrEntriesSumToZero := by
  intro x y r hl hr
  obtain ⟨-, rfl⟩ := xcorr_eq_some.1 hr
  have hsum := sum_numerator_lags (xs := centred x) (ys := centred y) (by simpa using hl)
  rw [centred_length, centred_sum, zero_mul] at hsum
  simpa [Function.comp_def] using hsum

/-- Settles O27: the entry at lag 0 is the sum of the squares, which bounds every entry. -/
theorem autocorrelationPeaksAtLagZero : Obligations.AutocorrelationPeaksAtLagZero := by
  intro x r hr
  obtain ⟨hn, rfl⟩ := xcorr_eq_some.1 hr
  refine ⟨energy (centred x), List.mem_map.2 ⟨0, zero_mem_lags (by omega), ?_⟩, energy_nonneg _,
    List.forall_mem_map.2 fun k _ => ?_⟩
  · rw [numerator_self_zero]
  · have hle := two_mul_abs_numerator_le (centred x) (centred x) k
    linarith

/-- Settles O28: the constant operand is all zero once centred. -/
theorem constantInputGivesZero : Obligations.ConstantInputGivesZero := by
  intro x y r c _ hr hconst
  obtain ⟨-, rfl⟩ := xcorr_eq_some.1 hr
  refine List.forall_mem_map.2 fun k _ => ?_
  rcases hconst with hx | hy
  · exact centred_const hx ▸ numerator_replicate_zero _ _ k
  · exact (numerator_swap _ _ k).symm.trans (centred_const hy ▸ numerator_replicate_zero _ _ (-k))

/-- Settles O30: lags are below the length in size, and a numerator is at most the mean of the two energies. -/
theorem resultWidthsHoldEveryValue : Obligations.ResultWidthsHoldEveryValue := by
  intro x y r hl hmax hr
  obtain ⟨-, rfl⟩ := xcorr_eq_some.1 hr
  have hden : x.length * x.length < 2 ^ 20 := (Nat.mul_le_mul hmax hmax).trans_lt (by norm_num)
  refine ⟨Nat.mod_eq_of_lt hden, ?_⟩
  rw [CorrResult.wire, List.map_map]
  refine (List.map_congr_left fun e he => ?_).trans (List.map_id _)
  obtain ⟨k, hk, rfl⟩ := List.mem_map.1 he
  have hlag : |k| < 2 ^ 10 := (abs_lt_of_mem_lags hk).trans_le (by omega)
  have hnum := two_mul_abs_numerator_le (centred x) (centred y) k
  have hx := energy_centred_lt hmax
  have hy := energy_centred_lt (hl ▸ hmax)
  exact entryWire_toInt hlag (by linarith)

/-- Settles O23: the engine answers none. -/
theorem xcorrOfTooFewRaises : Obligations.XcorrOfTooFewRaises :=
  fun s _ _ hl hn => execXcorr_none s hl (xcorr_none hn)

/-- Settles O24: the test on the lengths stands first. -/
theorem xcorrOfUnequalLengthsRefused : Obligations.XcorrOfUnequalLengthsRefused :=
  fun s _ _ hl => execXcorr_unequal s hl

/-- Settles O29: with `n = 2` the centred series are `-dx, dx` and `-dy, dy`. -/
theorem xcorrOfTwoSamples : Obligations.XcorrOfTwoSamples := by
  intro s x0 x1 y0 y1 dx dy
  refine execXcorr_some s rfl (xcorr_eq_some.2 ⟨le_refl 2, ?_⟩)
  have hx : centred [x0, x1] = [-dx, dx] := by simp [centred, seriesSum, dx]; omega
  have hy : centred [y0, y1] = [-dy, dy] := by simp [centred, seriesSum, dy]; omega
  have hlags : lags 2 = [-1, 0, 1] := by decide
  simp [hx, hy, hlags, numerator, two_mul, add_mul]

end Sys2Proof
end

section
/-! PROOFS. The end of a tick (spec/44_acquisition_tick.md R141, R142, R146 to R148): every tick on series of one
length comes to it, with RESCHED as its last act and an outcome that is neither `EngineMisuse` nor
`IncompleteFrame`. -/

namespace Sys2Proof

open Machine

namespace Machine

/-- No call in the list is a request to the Scheduler. -/
def NoResched (calls : List Call) : Prop := ∀ c ∈ calls, ∀ ms, c ≠ .resched ms

/-- A tick from `s` has come to its end at `t` with outcome `o`, and has made no request to the Scheduler before
that end. -/
def EndsTick (o : TickOutcome) (s t : State) : Prop :=
  ∃ u before, t = finishTick o u ∧ u.calls = s.calls ++ before ∧ NoResched before

/-- The end of a tick is the one place of its request to the Scheduler (R141). -/
theorem EndsTick.calls_eq {o : TickOutcome} {s t : State} (h : EndsTick o s t) :
    ∃ before, t.calls = s.calls ++ before ++ [.resched 100] ∧ NoResched before := by
  obtain ⟨u, before, rfl, hcalls, hno⟩ := h
  exact ⟨before, by rw [finishTick_eq, hcalls], hno⟩

theorem EndsTick.phase_eq {o : TickOutcome} {s t : State} (h : EndsTick o s t) : t.phase = .waiting := by
  obtain ⟨u, before, rfl, -, -⟩ := h
  rfl

theorem EndsTick.ret_eq {o : TickOutcome} {s t : State} (h : EndsTick o s t) : t.ret = .outcome o := by
  obtain ⟨u, before, rfl, -, -⟩ := h
  rfl

/-- What a tick did before its last part comes before that part's calls. -/
theorem EndsTick.of_calls {o : TickOutcome} {s s' t : State} {before : List Call} (h : EndsTick o s' t)
    (hcalls : s'.calls = s.calls ++ before) (hno : NoResched before) : EndsTick o s t := by
  obtain ⟨u, more, rfl, hmore, hno'⟩ := h
  refine ⟨u, before ++ more, rfl, by rw [hmore, hcalls, List.append_assoc], ?_⟩
  exact List.forall_mem_append.2 ⟨hno, hno'⟩

/-- Taking an error kind ends the tick with the outcome of its name, after one report (R168). -/
theorem earlyOut_endsTick (k : ErrorKind) (s : State) : EndsTick (outcomeOf k) s (earlyOut k s) :=
  ⟨reportOp k (s.raise k), [.report k], rfl, rfl, by simp [NoResched]⟩

/-- Rendering ends the tick, after at most one call to the display (R138, R139). -/
theorem renderSnapshot_endsTick {c : Bool} {s t : State} (h : renderSnapshot c s = .next t) :
    ∃ o ∈ [TickOutcome.published, .appended, .cleared], EndsTick o s t := by
  rcases renderSnapshot_cases h with ⟨-, rfl⟩ | ⟨ra, rb, r, -, -, -, -, -, rfl⟩
  · exact ⟨_, by cases c <;> simp, s, [], rfl, by simp, by simp [NoResched]⟩
  · exact ⟨.published, by simp, publishOp ⟨ra, rb, s.sa, s.sb, r⟩ (s.perform .xcorr), [.publish _], rfl, rfl,
      by simp [NoResched]⟩

/-- Every tick that completes comes to the end of a tick, with one of six outcomes: those of `EngineMisuse` and
`IncompleteFrame` are not among them (R146, R147). -/
theorem tick_endsTick {avail : Nat} {rd : List Byte} {s t : State} (hp : ¬ (4 ≤ avail ∧ 4 < rd.length))
    (h : tick avail rd s = .next t) :
    ∃ o ∈ [TickOutcome.sourceNotReady, .shortRead, .prevUndefined, .published, .appended, .cleared],
      EndsTick o s t := by
  rcases tick_inputs s hp with h1 | ⟨h1, h2⟩ | ⟨a, b, h1, hd, hn | ⟨fa, fb, ha, hb⟩⟩
  · rw [tick_noData rd s h1] at h
    cases h
    exact ⟨.sourceNotReady, by simp, (earlyOut_endsTick .sourceNotReady _).of_calls rfl (by simp [NoResched])⟩
  · rw [tick_shortRead s h1 h2] at h
    cases h
    exact ⟨.shortRead, by simp, (earlyOut_endsTick .shortRead _).of_calls
      (List.append_assoc _ _ _) (by simp [NoResched])⟩
  · rw [tick_rejects s h1 hd hn] at h
    cases h
    exact ⟨.prevUndefined, by simp, (earlyOut_endsTick .prevUndefined _).of_calls rfl (by simp [NoResched])⟩
  · rw [tick_accepts s h1 hd ha hb, appendBoth_setRecord] at h
    obtain ⟨o, ho, hend⟩ := renderSnapshot_endsTick h
    refine ⟨o, ?_, hend.of_calls rfl (by simp [NoResched])⟩
    exact List.mem_append_right [.sourceNotReady, .shortRead, .prevUndefined] ho

/-- An append keeps series of one length at one length (R110). -/
theorem appendBoth_length_eq {s : State} (e : s.sa.length = s.sb.length) (fa fb : U16) :
    (appendBoth fa fb s).sa.length = (appendBoth fa fb s).sb.length := by
  rcases appendBoth_cases fa fb s with ⟨-, h⟩ | ⟨hroom, h⟩
  · rw [h]
    rfl
  · rw [h]
    simp [e]

/-- Every tick that can be presented, on series of one length, completes (R148). -/
theorem execTick_completes (avail : Nat) {rd : List Byte} {s : State} (hrd : rd.length ≤ 4)
    (e : s.sa.length = s.sb.length) : ∃ t, execTick avail rd s = .next t := by
  have hp : ¬ (4 ≤ avail ∧ 4 < rd.length) := fun h => hrd.not_gt h.2
  rw [execTick_eq s hp]
  rcases tick_inputs s hp with h1 | ⟨h1, h2⟩ | ⟨a, b, h1, hd, hn | ⟨fa, fb, ha, hb⟩⟩
  · exact ⟨_, tick_noData rd s h1⟩
  · exact ⟨_, tick_shortRead s h1 h2⟩
  · exact ⟨_, tick_rejects s h1 hd hn⟩
  · rw [tick_accepts s h1 hd ha hb, appendBoth_setRecord]
    exact renderSnapshot_next _ (appendBoth_length_eq e fa fb)

end Machine

/-- A tick raises no error kind but `PrevUndefined`, whose bit is `FAULT[0]` (R147). -/
theorem TickWrites.fault_bits {s x : State} (h : TickWrites s x) :
    x.fault &&& 0b110#3 = s.fault &&& 0b110#3 := by
  cases h with
  | skips => rfl
  | rejects => simp [BitVec.and_or_distrib_right, faultMask]
  | appends => simp

/-- Settles O43: the bits by what a tick may write, the outcome by how it ends. -/
theorem tickNeverMisusesItsParts : Obligations.TickNeverMisusesItsParts := by
  intro s t i hi h
  obtain ⟨avail, rd, hp, heq⟩ := IsTick.exec_eq hi h
  obtain ⟨o, ho, hend⟩ := tick_endsTick hp ((heq s).symm.trans h)
  refine ⟨(IsTick.writes hi h).fault_bits, ?_, ?_, o, hend.ret_eq⟩ <;>
  · intro e
    cases hend.ret_eq.symm.trans e
    exact absurd ho (by decide)

/-- Settles O44: the tick completes, and what completes comes to the end of a tick. -/
theorem everyTickReschedulesLast : Obligations.EveryTickReschedulesLast := by
  intro s avail rd hrd e
  obtain ⟨t, ht⟩ := execTick_completes avail hrd e
  obtain ⟨hp, htick⟩ := execTick_next ht
  obtain ⟨o, -, hend⟩ := tick_endsTick hp htick
  obtain ⟨before, hcalls, hno⟩ := hend.calls_eq
  exact ⟨t, before, ht, hcalls, hno, hend.phase_eq⟩

end Sys2Proof
end

section
/-! PROOFS. Nothing internal stops the block (spec/44_acquisition_tick.md R148, spec/60_exceptions.md R163): what can
be presented completes, and so does the block's own tick. -/

namespace Sys2Proof

open Machine

namespace Machine

/-- DECODE of what can be presented answers a frame's values or raises `IncompleteFrame` (R85, R89). -/
theorem execDecode_completes {buf : List Byte} (s : State) (hl : buf.length ≤ 4) :
    ∃ t, execDecode buf s = .next t := by
  rcases hl.lt_or_eq with h | h
  · exact ⟨_, execDecode_short s h⟩
  · obtain ⟨p, hd⟩ := Option.isSome_iff_exists.1 ((decodeFrame_isSome buf).2 h)
    exact ⟨_, execDecode_frame s hd⟩

/-- FILTER answers a value or raises `PrevUndefined` (R93, R96). -/
theorem execFilter_completes (v : U16) (prev : Option U16) (s : State) : ∃ t, execFilter v prev s = .next t := by
  cases h : filterValue v prev with
  | some f => exact ⟨_, execFilter_some s h⟩
  | none => exact ⟨_, execFilter_none s h⟩

/-- XCORR of operands of one length answers a result or raises `EngineMisuse` (R115, R121). -/
theorem execXcorr_completes {x y : List U16} (s : State) (hl : x.length = y.length) :
    ∃ t, execXcorr x y s = .next t := by
  cases h : xcorr x y with
  | some r => exact ⟨_, execXcorr_some s hl h⟩
  | none => exact ⟨_, execXcorr_none s hl h⟩

end Machine

/-- Settles O53: a refusal needs a read of more than 4 bytes, or series or operands of unequal length. -/
theorem everyPresentableInstructionCompletes : Obligations.EveryPresentableInstructionCompletes := by
  intro s i hs hwf
  have hlen : s.sa.length = s.sb.length := hs.sb_length.symm
  cases i with
  | frame a b =>
    rw [frameIsTickOnItsBytes]
    exact execTick_completes 4 (encodeFrame_length a b).le hlen
  | tick avail rd => exact execTick_completes avail (of_decide_eq_true hwf) hlen
  | decode buf => exact execDecode_completes s (of_decide_eq_true hwf)
  | filter v prev => exact execFilter_completes v prev s
  | xcorr x y => exact execXcorr_completes s (beq_iff_eq.1 hwf)
  | reset | poll | read4 | append | last | snapshot | publish | report | resched => exact ⟨_, rfl⟩

/-- The source's answers can be presented (R35). -/
theorem ownTick_wellFormed (s : State) : (ownTick s).WellFormed := decide_eq_true (srcBytes_length_le s)

/-- Settles O54: the step is the block's own tick, which completes and does not write the port. -/
theorem loopNeverStops : Obligations.LoopNeverStops := by
  intro s hs hcmds
  obtain ⟨t, ht⟩ := everyPresentableInstructionCompletes _ (ownTick s) hs.afterSource (ownTick_wellFormed s)
  refine ⟨t, (step_of_no_cmds hcmds).trans ht, ?_⟩
  calc t.cmds = (afterSource s).cmds := (exec_writes ht).cmds_eq
    _ = s.cmds := by rw [afterSource_eq]
    _ = [] := hcmds

end Sys2Proof
end

section
/-! PROOFS. The operations that call a collaborator, taken alone (spec/44_acquisition_tick.md R134, R135, R139 to
R141): one call each, and what the Serial source answers and loses (spec/10_state.md R35). -/

namespace Sys2Proof

open Machine

namespace Machine

theorem srcAvail_free {s : State} (h : s.source = .free) : srcAvail s = Config.srcAvail s.draws := by
  rw [srcAvail, h]

theorem srcAvail_queue {s : State} {q : List Byte} (h : s.source = .queue q) : srcAvail s = q.length := by
  rw [srcAvail, h]

theorem srcBytes_free {s : State} (h : s.source = .free) : srcBytes s = (Config.srcBytes s.draws).take 4 := by
  rw [srcBytes, h, params_frameBytes]

theorem srcBytes_queue {s : State} {q : List Byte} (h : s.source = .queue q) : srcBytes s = q.take 4 := by
  rw [srcBytes, h, params_frameBytes]

/-- POLL draws one answer of the source and writes nothing but the record (R134). -/
theorem exec_poll_eq (s : State) : exec .poll s = .next { s with
    draws := s.draws + 1, ret := .avail (srcAvail s)
    calls := s.calls ++ [.srcAvail (srcAvail s)], trace := s.trace ++ [⟨s.phase, .poll⟩] } := rfl

/-- READ4 draws one answer of the source, which loses it, and writes nothing else but the record (R135). -/
theorem exec_read4_eq (s : State) : exec .read4 s = .next { s with
    source := srcRemainder s.source, draws := s.draws + 1, ret := .bytes (srcBytes s)
    calls := s.calls ++ [.srcRead 4 (srcBytes s)], trace := s.trace ++ [⟨s.phase, .read4⟩] } := rfl

end Machine

/-- Settles O31, source by source. -/
theorem pollAnswersTheCount : Obligations.PollAnswersTheCount := fun s =>
  ⟨fun q h => by rw [exec_poll_eq, srcAvail_queue h], fun h => by rw [exec_poll_eq, srcAvail_free h]⟩

/-- Settles O32, source by source: a queue loses the bytes it answers, the free source stays the free source. -/
theorem readTakesAtMostFourBytes : Obligations.ReadTakesAtMostFourBytes := fun s => by
  refine ⟨fun q h => ?_, fun h => ?_⟩
  · rw [exec_read4_eq, srcBytes_queue h, h]
    rfl
  · rw [exec_read4_eq, srcBytes_free h, h]
    rfl

/-- Settles O33: PUBLISH records its entry and its one call, and returns nothing. -/
theorem publishIsOneCall : Obligations.PublishIsOneCall := fun _ _ _ _ _ _ => rfl

/-- Settles O34: each records its entry and its one call, and returns nothing; RESCHED asks for `TICK_DELAY_MS`. -/
theorem reportAndRescheduleAreOneCall : Obligations.ReportAndRescheduleAreOneCall := fun _ =>
  ⟨fun _ => rfl, rfl⟩

end Sys2Proof
end

section
/-! PROOFS. The error kinds a tick can take (spec/60_exceptions.md R155 to R168): a tick that does not append takes
one of three, whose `FAULT` bit and `PHASE` are all it writes. -/

namespace Sys2Proof

open Machine

namespace Machine

/-- TICK with a short read ends `ShortRead` (R157). -/
theorem execTick_shortRead {avail : Nat} {rd : List Byte} (s : State) (h : 4 ≤ avail) (hl : rd.length < 4) :
    execTick avail rd s =
      .next (earlyOut .shortRead (read4Op rd (pollOp avail ((s.perform .tick).setPhase .waiting)))) :=
  (execTick_eq s fun hp => hl.not_gt hp.2).trans (tick_shortRead s h hl)

/-- The filter answers none for a value out of range on an empty series (R96, R160). -/
theorem filterValue_empty {v : U16} {l : List U16} (h : 6000 < v.toNat ∧ l = []) :
    filterValue v l.getLast? = none := by
  obtain ⟨hv, rfl⟩ := h
  exact filterValue_of_gt hv none

/-- The error kinds a tick can take: `EngineMisuse` and `IncompleteFrame` are unreachable from a tick (R147). -/
def tickKinds : List ErrorKind := [.sourceNotReady, .shortRead, .prevUndefined]

/-- An outcome is that of one error kind at most (R72, R155). -/
theorem outcomeOf_injective : Function.Injective outcomeOf := by
  intro j k h
  cases j <;> cases k <;> cases h <;> rfl

/-- No error kind has the outcome of a tick that appended (R146). -/
theorem outcomeOf_notMem_appended (k : ErrorKind) :
    outcomeOf k ∉ [TickOutcome.published, .appended, .cleared] := by
  cases k <;> decide

/-- A tick that completes took one of three error kinds, and wrote that kind's `FAULT` bit and `PHASE` alone, or came
to one of the three endings of an append (R146, R168). -/
theorem tick_ends {avail : Nat} {rd : List Byte} {s t : State} (hp : ¬ (4 ≤ avail ∧ 4 < rd.length))
    (h : tick avail rd s = .next t) :
    (∃ k ∈ tickKinds, t.ret = .outcome (outcomeOf k) ∧
      t.unrecorded = (s.unrecorded.raise k).setPhase .waiting) ∨
    ∃ o ∈ [TickOutcome.published, .appended, .cleared], t.ret = .outcome o := by
  rcases tick_inputs s hp with h1 | ⟨h1, h2⟩ | ⟨a, b, h1, hd, hn | ⟨fa, fb, ha, hb⟩⟩
  · rw [tick_noData rd s h1] at h
    cases h
    exact .inl ⟨.sourceNotReady, by decide, rfl, by simp⟩
  · rw [tick_shortRead s h1 h2] at h
    cases h
    exact .inl ⟨.shortRead, by decide, rfl, by simp⟩
  · rw [tick_rejects s h1 hd hn] at h
    cases h
    exact .inl ⟨.prevUndefined, by decide, rfl, by simp [State.unrecorded_setRecord]⟩
  · rw [tick_accepts s h1 hd ha hb] at h
    exact .inr (renderSnapshot_ret h)

/-- Of the error kinds a tick takes, `PrevUndefined` alone has a bit in `FAULT` (R155). -/
theorem faultMask_of_mem_tickKinds {k : ErrorKind} (h : k ∈ tickKinds) :
    faultMask k = if k = .prevUndefined then 0b001 else 0 := by
  revert k
  decide

/-- A tick that ends in the outcome of an error kind took that kind: it raised it, and wrote nothing else but
`PHASE` (R168). -/
theorem tick_takes_errorKind {avail : Nat} {rd : List Byte} {s t : State} {k : ErrorKind}
    (hp : ¬ (4 ≤ avail ∧ 4 < rd.length)) (h : tick avail rd s = .next t) (hret : t.ret = .outcome (outcomeOf k)) :
    k ∈ tickKinds ∧
      t.unrecorded = (s.unrecorded.raise k).setPhase .waiting := by
  rcases tick_ends hp h with ⟨j, hj, hj', hw⟩ | ⟨o, ho, ho'⟩
  · cases outcomeOf_injective (Result.outcome.inj (hj'.symm.trans hret))
    exact ⟨hj, hw⟩
  · cases ho'.symm.trans hret
    exact absurd ho (outcomeOf_notMem_appended k)

end Machine

/-- Settles O37: the filter of that channel answers none, and its tick ends `PrevUndefined` in `Filtering`. -/
theorem tickWithoutPreviousRaises : Obligations.TickWithoutPreviousRaises := by
  intro s avail rd a b h4 hd hempty
  have hnone := hempty.imp (filterValue_empty (l := s.sa)) (filterValue_empty (l := s.sb))
  refine (execTick_frame avail s hd).trans ((tick_rejects s h4 hd hnone).trans ?_)
  simp [earlyOut_eq, faultMask, outcomeOf]

/-- Settles O45: the tick took the kind of its outcome, whose `FAULT` bit is all it wrote beside `PHASE`. -/
theorem errorKindsArePrecise : Obligations.ErrorKindsArePrecise := by
  intro s t i k hi h hret
  obtain ⟨avail, rd, hp, heq⟩ := IsTick.exec_eq hi h
  obtain ⟨hk, hw⟩ := tick_takes_errorKind hp ((heq s).symm.trans h) hret
  have hfault : t.fault = s.fault ||| faultMask k := congrArg State.fault hw
  refine ⟨(congrArg State.sa hw :), (congrArg State.sb hw :), (congrArg State.count hw :),
    congrArg State.phase hw, ?_⟩
  rw [hfault, faultMask_of_mem_tickKinds hk]
  split
  · rfl
  · exact BitVec.or_zero

/-- Settles O35: the tick takes `SourceNotReady`, which has no bit in `FAULT`, before it reads. -/
theorem tickWithoutDataSkips : Obligations.TickWithoutDataSkips := by
  intro s avail rd h
  refine (execTick_noData rd s h).trans ?_
  simp [earlyOut_eq, pollOp_eq, State.perform, State.setPhase, faultMask, outcomeOf]

/-- Settles O36: the tick takes `ShortRead`, which has no bit in `FAULT`, after its one read. -/
theorem tickWithShortReadSkips : Obligations.TickWithShortReadSkips := by
  intro s avail rd h4 hl
  refine (execTick_shortRead s h4 hl).trans ?_
  simp [earlyOut_eq, pollOp_eq, read4Op_eq, State.perform, State.setPhase, faultMask, outcomeOf]

end Sys2Proof
end

section
/-! PROOFS. What the display shows (spec/70_reset_and_hazards.md R195): it is read off the calls, and no call but
`Publish` changes it. -/

namespace Sys2Proof

open Machine

namespace Machine

/-- A call that is not to the display leaves what it shows (R159). -/
theorem lastPublish_concat {x : Call} (hx : ∀ p, x ≠ .publish p) (c : List Call) :
    lastPublish (c ++ [x]) = lastPublish c := by
  cases x with
  | publish p => exact absurd rfl (hx p)
  | srcAvail | srcRead | report | resched => simp [lastPublish]

@[simp] theorem lastPublish_pollOp (n : Nat) (s : State) : lastPublish (pollOp n s).calls = lastPublish s.calls :=
  lastPublish_concat (x := .srcAvail n) nofun _
@[simp] theorem lastPublish_read4Op (rd : List Byte) (s : State) :
    lastPublish (read4Op rd s).calls = lastPublish s.calls := lastPublish_concat (x := .srcRead 4 rd) nofun _
@[simp] theorem lastPublish_reportOp (k : ErrorKind) (s : State) :
    lastPublish (reportOp k s).calls = lastPublish s.calls := lastPublish_concat (x := .report k) nofun _
@[simp] theorem lastPublish_reschedOp (s : State) : lastPublish (reschedOp s).calls = lastPublish s.calls :=
  lastPublish_concat (x := .resched 100) nofun _
@[simp] theorem lastPublish_finishTick (o : TickOutcome) (s : State) :
    lastPublish (finishTick o s).calls = lastPublish s.calls := by simp [finishTick]
@[simp] theorem lastPublish_earlyOut (k : ErrorKind) (s : State) :
    lastPublish (earlyOut k s).calls = lastPublish s.calls := by simp [earlyOut]

/-! ## The tick -/

/-- Rendering leaves the display, or ends the tick `Published` (R138, R139). -/
theorem renderSnapshot_lastPublish {c : Bool} {s t : State} (h : renderSnapshot c s = .next t) :
    lastPublish t.calls = lastPublish s.calls ∨ t.ret = .outcome .published := by
  rcases renderSnapshot_cases h with ⟨-, rfl⟩ | ⟨ra, rb, r, -, -, -, -, -, rfl⟩
  · exact .inl (lastPublish_finishTick _ s)
  · exact .inr rfl

/-- A tick leaves the display, or ends `Published`: its early ends report and reschedule, and before rendering it
calls the source alone. -/
theorem tick_lastPublish {avail : Nat} {rd : List Byte} {s t : State} (hp : ¬ (4 ≤ avail ∧ 4 < rd.length))
    (h : tick avail rd s = .next t) :
    lastPublish t.calls = lastPublish s.calls ∨ t.ret = .outcome .published := by
  rcases tick_inputs s hp with h1 | ⟨h1, h2⟩ | ⟨a, b, h1, hd, hn | ⟨fa, fb, ha, hb⟩⟩
  · rw [tick_noData rd s h1] at h
    cases h
    exact .inl (by simp)
  · rw [tick_shortRead s h1 h2] at h
    cases h
    exact .inl (by simp)
  · rw [tick_rejects s h1 hd hn] at h
    cases h
    exact .inl (by simp [lastPublish_append_reads])
  · rw [tick_accepts s h1 hd ha hb, appendBoth_setRecord] at h
    exact (renderSnapshot_lastPublish h).imp_left (·.trans (lastPublish_append_reads _ _ _))

/-! ## The operations taken alone -/

@[simp] theorem appendBoth_calls (fa fb : U16) (s : State) : (appendBoth fa fb s).calls = s.calls := by
  rw [appendBoth_eq]

/-- DECODE calls no collaborator. -/
theorem execDecode_calls {buf : List Byte} {s t : State} (h : execDecode buf s = .next t) : t.calls = s.calls := by
  rcases lt_trichotomy buf.length 4 with hl | hl | hl
  · rw [execDecode_short s hl] at h
    cases h
    rfl
  · obtain ⟨p, hd⟩ := Option.isSome_iff_exists.1 ((decodeFrame_isSome buf).2 hl)
    rw [execDecode_frame s hd] at h
    cases h
    rfl
  · rw [execDecode_overlong s hl] at h
    cases h

/-- FILTER calls no collaborator. -/
theorem execFilter_calls {v : U16} {prev : Option U16} {s t : State} (h : execFilter v prev s = .next t) :
    t.calls = s.calls := by
  cases hf : filterValue v prev with
  | some f =>
    rw [execFilter_some s hf] at h
    cases h
    rfl
  | none =>
    rw [execFilter_none s hf] at h
    cases h
    rfl

/-- XCORR calls no collaborator. -/
theorem execXcorr_calls {x y : List U16} {s t : State} (h : execXcorr x y s = .next t) : t.calls = s.calls := by
  by_cases hl : x.length = y.length
  · cases hx : xcorr x y with
    | some r =>
      rw [execXcorr_some s hl hx] at h
      cases h
      rfl
    | none =>
      rw [execXcorr_none s hl hx] at h
      cases h
      rfl
  · rw [execXcorr_unequal s hl] at h
    cases h

/-- An operation taken alone, PUBLISH apart, leaves the display (R195). -/
theorem exec_lastPublish_of_not_isTick {i : Instr} {s t : State} (hi : ¬ IsTick i)
    (hpub : ∀ ra rb a b r, i ≠ .publish ra rb a b r) (h : exec i s = .next t) :
    lastPublish t.calls = lastPublish s.calls := by
  cases i with
  | tick avail rd => exact absurd (.inl ⟨avail, rd, rfl⟩) hi
  | frame a b => exact absurd (.inr ⟨a, b, rfl⟩) hi
  | publish ra rb a b r => exact absurd rfl (hpub ra rb a b r)
  | decode buf => rw [execDecode_calls h]
  | filter v prev => rw [execFilter_calls h]
  | xcorr x y => rw [execXcorr_calls h]
  | reset | last | snapshot => cases h; rfl
  | append | poll | read4 | report | resched => cases h; simp

end Machine

/-- Settles O46: what is no tick leaves the display, and so does a tick, or it ends `Published`. -/
theorem displayChangesOnlyWhenPublished : Obligations.DisplayChangesOnlyWhenPublished := by
  intro s t i hpub h
  by_cases hi : IsTick i
  · obtain ⟨avail, rd, hp, heq⟩ := hi.exec_eq h
    exact (tick_lastPublish hp ((heq s).symm.trans h)).imp_right (⟨hi, ·⟩)
  · exact .inl (exec_lastPublish_of_not_isTick hi hpub h)

end Sys2Proof
end

section
/-! PROOFS. Construction reset, and the ticks that record no fault (spec/70_reset_and_hazards.md R181, R185). -/

namespace Sys2Proof

open Machine

/-- Where the series are not empty, both filters answer, so that the one error kind of a tick with a `FAULT` bit is
not taken (R96, R185). -/
theorem Machine.tick_fault_eq {avail : Nat} {rd : List Byte} {s t : State} (hsa : s.sa ≠ []) (hsb : s.sb ≠ [])
    (hp : ¬ (4 ≤ avail ∧ 4 < rd.length)) (h : tick avail rd s = .next t) : t.fault = s.fault := by
  rcases tick_inputs s hp with h1 | ⟨h1, h2⟩ | ⟨a, b, h1, hd, hn | ⟨fa, fb, ha, hb⟩⟩
  · rw [tick_noData rd s h1] at h
    cases h
    exact BitVec.or_zero
  · rw [tick_shortRead s h1 h2] at h
    cases h
    exact BitVec.or_zero
  · obtain ⟨fa, hfa⟩ := filterValue_isSome (v := a) (.inr hsa)
    obtain ⟨fb, hfb⟩ := filterValue_isSome (v := b) (.inr hsb)
    simp [hfa, hfb] at hn
  · rw [tick_accepts s h1 hd ha hb, appendBoth_setRecord] at h
    exact (congrArg State.fault (renderSnapshot_unrecorded h)).trans (appendBoth_fault fa fb s)

/-- Settles O47: the tick leaves `FAULT` as it was. -/
theorem seededSeriesNeverFault : Obligations.SeededSeriesNeverFault := by
  intro s t i hi ha hb h hs
  obtain ⟨avail, rd, hp, heq⟩ := IsTick.exec_eq hi h
  exact (tick_fault_eq ha hb hp ((heq s).symm.trans h)).trans hs

/-- Settles O10: RESET records its entry, constructs the five elements (`SEED` is 0) and returns nothing. -/
theorem resetWritesEveryElement : Obligations.ResetWritesEveryElement := fun _ => rfl

end Sys2Proof
end
